-- ==== Sys2Proof/Word.lean ====
section
/-! DEFINITION. The words and index types of the CJ-640, and the fixed-size table the blocks keep their entries in. -/

namespace Sys2Proof

/-- A word is 32 bits (00_scope.md, section 5). -/
abbrev Word := BitVec 32

/-- Addresses are 40-bit byte addresses (00_scope.md, section 5). -/
abbrev Address := BitVec 40

/-- A source ID, 0 to 31 (00_scope.md, section 1). -/
abbrev SourceId := Fin 32

/-- A requester tag, 0 to 255: a label the bridge carries and never computes with (R3). -/
abbrev ReqTag := BitVec 8

/-- A pool tag, 0 to 63 (R1). -/
abbrev PoolTag := Fin 64

/-- An element slot, 0 to 63 (R85). -/
abbrev SlotId := Fin 64

/-- A reading of the tick count, modulo 65536 (R105, R109). -/
abbrev Tick := BitVec 16

/-- The two ports (R117). -/
inductive PortId where
  | rq
  | rs
  deriving DecidableEq, Repr

/-- A table of `n` like entries, one for each index. -/
abbrev Table (α : Type) (n : Nat) := Vector α n

/-- Entry `i` of a table. -/
def getAt {α : Type} {n : Nat} (t : Table α n) (i : Fin n) : α := t[i]

/-- The table with entry `i` replaced. -/
def putAt {α : Type} {n : Nat} (t : Table α n) (i : Fin n) (x : α) : Table α n :=
  t.set i.val x i.isLt

/-- A table whose entries are all `x`. -/
def fillTable {α : Type} (n : Nat) (x : α) : Table α n := Vector.replicate n x

@[simp] theorem getAt_putAt_self {α : Type} {n : Nat} (t : Table α n) (i : Fin n) (x : α) :
    getAt (putAt t i x) i = x := by
  simp [getAt, putAt]

theorem getAt_putAt {α : Type} {n : Nat} (t : Table α n) (i j : Fin n) (x : α) :
    getAt (putAt t i x) j = if i = j then x else getAt t j := by
  simp [getAt, putAt, Vector.getElem_set, Fin.ext_iff]

theorem getAt_putAt_ne {α : Type} {n : Nat} (t : Table α n) {i j : Fin n} (x : α) (h : i ≠ j) :
    getAt (putAt t i x) j = getAt t j := by
  simp [getAt_putAt, h]

@[simp] theorem getAt_fillTable {α : Type} (n : Nat) (x : α) (i : Fin n) :
    getAt (fillTable n x) i = x := by
  simp [getAt, fillTable]

/-- A Bool as one bit. -/
def bit (b : Bool) : BitVec 1 := BitVec.ofBool b

end Sys2Proof
end

