-- ==== Sys2Proof/Config.lean ====
section
/-! DEFINITION. What the part fixes: capacities, the aperture, the identification, and the one named value that is not the spec's. -/

namespace Sys2Proof.Config

/-- Room of the Forward Queue and slots of the ORDINARY pool (R23, R121). -/
def ordinarySlots : Nat := 32

/-- Room of the Management Queue and slots of the MANAGEMENT pool (R121, R170). -/
def managementSlots : Nat := 2

/-- Room of the responder-side ingress buffer and slots of the RETURN pool (R64, R121). -/
def returnSlots : Nat := 16

/-- Room of the Traffic Queue (R130). -/
def trafficRoom : Nat := 32

/-- The two Management Response Slots (R171). -/
def responseSlots : Nat := 2

/-- Room of the Error Record Queue (R145). -/
def recordRoom : Nat := 8

/-- Words of Hold Buffer storage (R90). -/
def holdWords : Nat := 512

/-- The largest transmit credit count (R122). -/
def maxCredits : Nat := 63

/-- First byte address of the management aperture, FF_FFFF_0000h (R168). -/
def apertureBase : Nat := 0xFFFFFF0000

/-- Vendor code of the identification word, A7Dh (R196). -/
def vendorCode : BitVec 12 := 0xA7D#12

/-- Part code of the identification word, 640 (R185, R196). -/
def partCode : BitVec 12 := 640#12

/-- Revision of the part this manual describes (R196). -/
def revision : BitVec 8 := 1#8

/-- The level of the strap pins that `State.reset` was sampled with.
DESIGN CHOICE, unsafe (assumption 4): the spec leaves the level to the board; DEVICE_RESET takes any. -/
def strapAtReset : SourceId := 0

end Sys2Proof.Config
end

