-- ==== Sys2Proof/Syntax.lean ====
section
/-! DEFINITION. The commands of the CJ-640: one constructor for each row of the opcode table. -/

namespace Sys2Proof

/-- A command: one indivisible step of the part (95_what_each_step_holds.md).
The management rows carry no operand: the request they take stands in the Management Queue (assumption 5). -/
inductive Instr where
  /-- R183: reset input or power-on, with the level of the strap pins (R47). -/
  | deviceReset (strap : SourceId)
  /-- R135 -/
  | rqLinkUp
  /-- R134 -/
  | rqLinkDown
  /-- R137 -/
  | rsLinkUp
  /-- R136 -/
  | rsLinkDown
  /-- R124: a packet as the physical layer delivers it (R187): framing byte, header and payload words, check word. -/
  | rqArrival (framing : BitVec 8) (words : List Word) (check : BitVec 16)
  /-- R129 -/
  | rsArrival (framing : BitVec 8) (words : List Word) (check : BitVec 16)
  /-- R122: the indication is the single byte of R188. -/
  | creditReturnIndication (port : PortId) (byte : BitVec 8)
  /-- R110 -/
  | tickEvent
  /-- R111 -/
  | expiry (tag : PoolTag)
  /-- R112 -/
  | lapse (tag : PoolTag)
  /-- R26 -/
  | classification
  /-- R39 -/
  | issue
  /-- R41 -/
  | issuePlainPosted
  /-- R35 -/
  | answerPlacement
  /-- R11 -/
  | backlogEntry
  /-- R127 -/
  | malformedAnswerEntry
  /-- R65 -/
  | matcherTake
  /-- R94 -/
  | drainStep (source : SourceId)
  /-- R132 -/
  | transmitStep
  /-- R180 -/
  | halt
  /-- R57 -/
  | swapBanks
  /-- R58 -/
  | copyActiveToStaging
  /-- R178 -/
  | quiesce
  /-- R179 -/
  | resume
  /-- R176 -/
  | flushSource
  /-- R182 -/
  | softReset
  /-- R164 -/
  | alertAck
  /-- R147 -/
  | popRecord
  /-- R148 -/
  | clearRecords
  /-- R150 -/
  | clearStatus
  /-- R48 -/
  | sourceConfigurationWrite
  /-- R55 -/
  | stagingWindowWrite
  /-- R61 -/
  | timeoutClassWrite
  /-- R62 -/
  | quarantineLimitWrite
  /-- R107 -/
  | tickPeriodWrite
  /-- R108 -/
  | tickRunWrite
  /-- R151 -/
  | errorMaskWrite
  /-- R152 -/
  | errorSeverityWrite
  /-- R153 -/
  | errorControlWrite
  /-- R161 -/
  | alertConfigurationWrite
  /-- R184 -/
  | farSourceIdWrite
  /-- R174, and every READ (R173) -/
  | managementWrite
  /-- R106 -/
  | prescaledStep
  deriving DecidableEq, Repr

end Sys2Proof
end

