-- ==== Sys2Proof/WellFormed.lean ====
section
/-! DEFINITION. When a command is one that the links can deliver. -/

namespace Sys2Proof

/-- Bit 7 of a byte tells an indication from the framing byte of a packet (R188). -/
def isIndicationByte (b : BitVec 8) : Bool := b.getLsbD 7

/-- A packet's framing byte has bit 7 clear and an indication has it set (R188).
Every other operand has the range its type gives. -/
def Instr.wellFormed : Instr → Bool
  | .rqArrival framing _ _ => !isIndicationByte framing
  | .rsArrival framing _ _ => !isIndicationByte framing
  | .creditReturnIndication _ byte => isIndicationByte byte
  | .deviceReset _ => true
  | .rqLinkUp => true
  | .rqLinkDown => true
  | .rsLinkUp => true
  | .rsLinkDown => true
  | .tickEvent => true
  | .expiry _ => true
  | .lapse _ => true
  | .classification => true
  | .issue => true
  | .issuePlainPosted => true
  | .answerPlacement => true
  | .backlogEntry => true
  | .malformedAnswerEntry => true
  | .matcherTake => true
  | .drainStep _ => true
  | .transmitStep => true
  | .halt => true
  | .swapBanks => true
  | .copyActiveToStaging => true
  | .quiesce => true
  | .resume => true
  | .flushSource => true
  | .softReset => true
  | .alertAck => true
  | .popRecord => true
  | .clearRecords => true
  | .clearStatus => true
  | .sourceConfigurationWrite => true
  | .stagingWindowWrite => true
  | .timeoutClassWrite => true
  | .quarantineLimitWrite => true
  | .tickPeriodWrite => true
  | .tickRunWrite => true
  | .errorMaskWrite => true
  | .errorSeverityWrite => true
  | .errorControlWrite => true
  | .alertConfigurationWrite => true
  | .farSourceIdWrite => true
  | .managementWrite => true
  | .prescaledStep => true

end Sys2Proof
end

