-- ==== Sys2Proof/Decode.lean ====
section
/-! DEFINITION. The command that a word of the table's bits spells. -/

namespace Sys2Proof

/-- No row of the opcode table gives bits: a word spells no command (assumption 7). -/
def decodeTableWord (_nbits _w : Nat) : Option Instr := none

end Sys2Proof
end

