-- ==== Sys2Proof/Machine/State.lean ====
section
/-! DEFINITION. The state of the CJ-640, block by block, and its value after a device reset. -/

namespace Sys2Proof.Machine

/-! ### Codes and kinds -/

/-- Link state of a port (R117). -/
inductive LinkState where
  | down
  | up
  deriving DecidableEq, Repr

/-- Pool codes of the framing byte (R118, R188). -/
inductive PoolCode where
  | ordinary
  | management
  | ret
  deriving DecidableEq, Repr

/-- Request kinds (R189). -/
inductive ReqKind where
  | read
  | write
  | cwrite
  deriving DecidableEq, Repr

/-- Kinds an Outstanding Table entry and an order element can have (R3, R86). -/
inductive EntryKind where
  | read
  | cwrite
  deriving DecidableEq, Repr

/-- Response kinds (R190). -/
inductive RespKind where
  | data
  | done
  | fail
  deriving DecidableEq, Repr

/-- FAIL status codes (R192). -/
inductive Status where
  | unsupported
  | denied
  | retry
  | timeout
  | abort
  | mismatch
  | halted
  | linkDown
  | malformed
  deriving DecidableEq, Repr

/-- Severities, and the alert classes equal to them (R139, R192). -/
inductive Severity where
  | fatal
  | nonfatal
  | advisory
  deriving DecidableEq, Repr

/-- The twenty error kinds in the order of their codes 1 to 20 (R139). -/
inductive ErrorKind where
  | integrityRq
  | integrityRs
  | creditOverrunRq
  | creditOverrunRs
  | malformedRequest
  | unknownSource
  | noWindow
  | accessDenied
  | mgmtRefused
  | quotaRetry
  | responseTimeout
  | lateResponse
  | unexpectedResponse
  | responseMismatch
  | poisonedData
  | absorbedWriteFailed
  | linkDownRq
  | linkDownRs
  | discardedWrite
  | malformedResponse
  deriving DecidableEq, Repr

/-- Operating states (R177). -/
inductive OpState where
  | run
  | quiescing
  | quiesced
  | halted
  deriving DecidableEq, Repr

/-- Order modes of a source (R46). -/
inductive OrderMode where
  | none
  | all
  | flagged
  deriving DecidableEq, Repr

/-- Access of a window (R53). -/
inductive Access where
  | readOnly
  | writeOnly
  | readWrite
  deriving DecidableEq, Repr

/-- Divisors of the prescaler: 1, 16, 256, 4096 (R105). -/
inductive Prescale where
  | div1
  | div16
  | div256
  | div4096
  deriving DecidableEq, Repr

/-! ### Packets -/

/-- A request as the requester port received it (R23, R170). -/
structure Request where
  kind : ReqKind
  source : SourceId
  tag : ReqTag
  ordered : Bool
  poison : Bool
  length : Nat
  address : Address
  override : Option (Fin 4)
  payload : List Word
  deriving DecidableEq, Repr

/-- A response as the RS port received it (R64); its word count is the number of its data words. -/
structure Arrived where
  kind : RespKind
  dest : SourceId
  tag : BitVec 8
  status : BitVec 4
  last : Bool
  poison : Bool
  data : List Word
  deriving DecidableEq, Repr

/-- A DATA segment: its words, its last flag and its poison flag (R86, R91). -/
structure Segment where
  words : List Word
  last : Bool
  poison : Bool
  deriving DecidableEq, Repr

/-- What a response toward the requesters carries beside its destination and tag (R83).
DONE and FAIL carry a clear poison flag and no words; DATA and DONE carry status 0. -/
inductive Body where
  | data (seg : Segment)
  | done
  | fail (status : Status)
  deriving DecidableEq, Repr

/-- A complete response toward the requesters (R130, R171). -/
structure Response where
  dest : SourceId
  tag : ReqTag
  body : Body
  deriving DecidableEq, Repr

/-- The fields of an ALERT (R163). -/
structure Alert where
  dest : SourceId
  cls : Severity
  kind : ErrorKind
  records : Nat
  overflowed : Bool
  deriving DecidableEq, Repr

/-- What the bridge puts on a link: a packet, a credit-return indication, or the direction to the
physical layer to restart the link (R118, R123, R187). -/
inductive WireItem where
  | packet (framing : BitVec 8) (words : List Word) (check : BitVec 16)
  | indication (byte : BitVec 8)
  | restart
  deriving DecidableEq, Repr

/-! ### Loaded tables -/

/-- One Source Table entry; `count` is the outstanding count (R46). -/
structure SourceEntry where
  valid : Bool
  group : Fin 4
  quota : BitVec 5
  permission : Bool
  order : OrderMode
  count : Nat
  deriving DecidableEq, Repr

/-- One window; both bases are held in units of 4096 bytes (R53). -/
structure Window where
  valid : Bool
  base : BitVec 28
  sizeExp : BitVec 6
  access : Access
  groups : BitVec 4
  transBase : BitVec 28
  cls : Fin 4
  absorb : Bool
  deriving DecidableEq, Repr

/-! ### Outstanding Table -/

/-- The record of an ACTIVE tag (R3). -/
structure ActiveRec where
  source : SourceId
  tag : ReqTag
  kind : EntryKind
  length : Nat
  received : Nat
  window : Fin 16
  bank : Fin 2
  limit : BitVec 12
  issueTick : Tick
  ordered : Bool
  absorbed : Bool
  delivered : Bool
  link : Option SlotId
  deriving DecidableEq, Repr

/-- The record of a QUARANTINED tag (R10). -/
structure QuarRec where
  source : SourceId
  tag : ReqTag
  kind : EntryKind
  startTick : Tick
  limit : BitVec 12
  deriving DecidableEq, Repr

/-- The state of a pool tag (R1). -/
inductive TagState where
  | free
  | active (r : ActiveRec)
  | quarantined (q : QuarRec)
  deriving DecidableEq, Repr

/-- An answer of the Answer Backlog (R11). -/
structure BacklogAnswer where
  source : SourceId
  tag : ReqTag
  status : Status
  deriving DecidableEq, Repr

/-- An answer of the Malformed Answer List, with the pool of the slot it keeps (R127). -/
structure MalformedAnswer where
  dest : SourceId
  tag : ReqTag
  pool : PoolCode
  deriving DecidableEq, Repr

/-! ### Dispatch -/

/-- How a classified request will travel (R27). -/
inductive IssueClass where
  | nonPosted
  | absorbed
  | plainPosted
  deriving DecidableEq, Repr

/-- The classification result (R27); both bases in units of 4096 bytes. -/
structure Classified where
  cls : IssueClass
  window : Fin 16
  bank : Fin 2
  base : BitVec 28
  transBase : BitVec 28
  timeoutClass : Fin 4
  ordered : Bool
  reservation : Nat
  deriving DecidableEq, Repr

/-- Phase of the head of the Forward Queue (R24). -/
inductive HeadPhase where
  | new
  | classified (c : Classified)
  | answering (status : Status)
  deriving DecidableEq, Repr

/-- A request waiting in the Forward Queue with its halt mark (R23, R24). -/
structure Waiting where
  req : Request
  mark : Bool
  deriving DecidableEq, Repr

/-! ### Return ordering -/

/-- State of an order element, with the failure status of a FAILED one (R86). -/
inductive ElementState where
  | awaiting
  | complete
  | failed (status : Status)
  deriving DecidableEq, Repr

/-- An order element (R86). -/
structure Element where
  state : ElementState
  tag : ReqTag
  kind : EntryKind
  reservation : Nat
  segs : List Segment
  storedDone : Bool
  link : Option PoolTag
  deriving DecidableEq, Repr

/-! ### Tick Generator -/

/-- State of the Tick Generator (R105). `division` is the prescaler's own division step: the core
clock periods since it last started a division. -/
structure TickGen where
  prescale : Prescale
  reload : BitVec 16
  pendingPeriod : Option (Prescale × BitVec 16)
  downCounter : BitVec 16
  run : Bool
  count : Tick
  division : Nat
  deriving DecidableEq, Repr

/-! ### Error Unit and Alert Unit -/

/-- The identification of a report: five fields, each present or absent (R140). -/
structure Ident where
  source : Option SourceId
  tag : Option ReqTag
  pool : Option PoolTag
  kind : Option ReqKind
  address : Option Address
  deriving DecidableEq, Repr

/-- An error record; `port` is absent where the report names none (R143). -/
structure Record where
  kind : ErrorKind
  severity : Severity
  port : Option PortId
  stamp : Tick
  ident : Ident
  deriving DecidableEq, Repr

/-- Status, mask and severity of one error kind (R139). -/
structure ErrorItem where
  status : Bool
  mask : Bool
  severity : Severity
  deriving DecidableEq, Repr

/-- State of the Error Unit (R158). -/
structure ErrorUnit where
  items : Table ErrorItem 20
  records : List Record
  overflowed : Bool
  haltOnFatal : Bool
  deriving DecidableEq, Repr

/-- State of an alert class (R160). -/
inductive ClassState where
  | idle
  | outstanding
  | pending
  deriving DecidableEq, Repr

/-- One alert class with its slot; `latest` is absent for the value 0 (R160). -/
structure AlertClass where
  enable : Bool
  state : ClassState
  latest : Option ErrorKind
  slot : Option Alert
  deriving DecidableEq, Repr

/-- State of the Alert Unit and the three alert slots (R160). -/
structure AlertUnit where
  dest : SourceId
  destValid : Bool
  fatal : AlertClass
  nonfatal : AlertClass
  advisory : AlertClass
  deriving DecidableEq, Repr

/-! ### The whole state -/

/-- The state of the part. `rqWire`, `rsWire` and `pending` are the model's own (assumption 6). -/
structure State where
  opState : OpState
  commandCode : BitVec 8
  commandArg : BitVec 8
  commandRefused : Bool
  farSource : SourceId
  mgmtQueue : List Request
  mgmtSlots : List Response
  haltRequested : Bool
  sources : Table SourceEntry 32
  banks : Table (Table Window 16) 2
  activeBank : Fin 2
  swapCount : BitVec 16
  timeoutLimits : Table (BitVec 12) 4
  quarantineLimit : BitVec 12
  strapPins : SourceId
  tags : Table TagState 64
  backlog : List BacklogAnswer
  forwardQueue : List Waiting
  headPhase : HeadPhase
  slots : Table (Option Element) 64
  lists : Table (List SlotId) 32
  tick : TickGen
  rqLink : LinkState
  rsLink : LinkState
  rqCredits : Nat
  rsCredits : Nat
  trafficQueue : List Response
  malformedList : List MalformedAnswer
  roomPointer : Fin 36
  ingress : List Arrived
  err : ErrorUnit
  alert : AlertUnit
  rqWire : List WireItem
  rsWire : List WireItem
  pending : List Instr
  deriving DecidableEq, Repr

/-- No event of the part stops it: the spec reports every error to the Error Unit and goes on
(R139 to R146), so there is no fault to name. Nothing raises one. -/
inductive Fault where
  deriving DecidableEq, Repr

/-- Why the model gives a command no meaning. -/
inductive Refusal where
  /-- Raised by no command: every row of the table has its meaning. It would be safe. -/
  | notModelled (mnemonic : String)
  deriving DecidableEq, Repr

/-! ### Device reset -/

/-- A source that is neither valid nor permitted (R47). -/
def SourceEntry.unset : SourceEntry :=
  { valid := false, group := 0, quota := 0#5, permission := false, order := .none, count := 0 }

/-- The bootstrap source's entry (R47). -/
def SourceEntry.bootstrap : SourceEntry :=
  { valid := true, group := 0, quota := 4#5, permission := true, order := .none, count := 0 }

/-- A window after device reset (R54). -/
def Window.unset : Window :=
  { valid := false, base := 0#28, sizeExp := 12#6, access := .readOnly, groups := 0#4,
    transBase := 0#28, cls := 0, absorb := false }

/-- Default severity of the kind with code `i + 1` (R139). -/
def defaultSeverities : Table Severity 20 :=
  #v[.advisory, .advisory, .fatal, .fatal, .nonfatal, .nonfatal, .nonfatal, .nonfatal, .nonfatal,
     .advisory, .nonfatal, .advisory, .nonfatal, .nonfatal, .advisory, .nonfatal, .fatal, .fatal,
     .nonfatal, .nonfatal]

/-- The Error Unit's items after device reset: clear, not masked, default severity (R139). -/
def defaultItems : Table ErrorItem 20 :=
  (List.finRange 20).foldl
    (fun t i => putAt t i { status := false, mask := false, severity := getAt defaultSeverities i })
    (fillTable 20 { status := false, mask := false, severity := .advisory })

/-- The Tick Generator after device reset (R105). -/
def TickGen.atReset : TickGen :=
  { prescale := .div256, reload := 976#16, pendingPeriod := none, downCounter := 976#16,
    run := true, count := 0#16, division := 0 }

/-- The Error Unit after device reset (R158). -/
def ErrorUnit.atReset : ErrorUnit :=
  { items := defaultItems, records := [], overflowed := false, haltOnFatal := true }

/-- An alert class that is off and IDLE, its slot empty (R160). -/
def AlertClass.atReset : AlertClass :=
  { enable := false, state := .idle, latest := none, slot := none }

/-- The Alert Unit after device reset (R160). -/
def AlertUnit.atReset : AlertUnit :=
  { dest := 0, destValid := false, fatal := .atReset, nonfatal := .atReset, advisory := .atReset }

/-- Every block at its device-reset value, the strap pins naming `strap` (R183, R47). -/
def State.afterReset (strap : SourceId) : State :=
  { opState := .run
    commandCode := 0#8
    commandArg := 0#8
    commandRefused := false
    farSource := 0
    mgmtQueue := []
    mgmtSlots := []
    haltRequested := false
    sources := putAt (fillTable 32 SourceEntry.unset) strap SourceEntry.bootstrap
    banks := fillTable 2 (fillTable 16 Window.unset)
    activeBank := 0
    swapCount := 0#16
    timeoutLimits := #v[10#12, 50#12, 200#12, 1000#12]
    quarantineLimit := 20#12
    strapPins := strap
    tags := fillTable 64 .free
    backlog := []
    forwardQueue := []
    headPhase := .new
    slots := fillTable 64 none
    lists := fillTable 32 []
    tick := .atReset
    rqLink := .down
    rsLink := .down
    rqCredits := 0
    rsCredits := 0
    trafficQueue := []
    malformedList := []
    roomPointer := 0
    ingress := []
    err := .atReset
    alert := .atReset
    rqWire := []
    rsWire := []
    pending := [] }

/-- The part right after a device reset. The strap level is the model's choice (assumption 4). -/
def State.reset : State := State.afterReset Config.strapAtReset

end Sys2Proof.Machine
end

