-- ==== Sys2Proof/Machine/Operands.lean ====
section
/-! DEFINITION. Codes, packet headers, the framing byte and the check word (chapter Formats), both ways, and the words of the management space. -/

namespace Sys2Proof.Machine

/-! ### Codes (R192) -/

def ReqKind.code : ReqKind → BitVec 4
  | .read => 1#4
  | .write => 2#4
  | .cwrite => 3#4

/-- Kinds of request a header can name; every other code fails the kind check (R125, R193). -/
def ReqKind.ofCode (c : BitVec 4) : Option ReqKind :=
  if c = 1#4 then some .read else if c = 2#4 then some .write
  else if c = 3#4 then some .cwrite else none

def EntryKind.toReq : EntryKind → ReqKind
  | .read => .read
  | .cwrite => .cwrite

def RespKind.code : RespKind → BitVec 4
  | .data => 8#4
  | .done => 9#4
  | .fail => 10#4

/-- Kinds of response a header can name; every other code is malformed on the RS port (R129). -/
def RespKind.ofCode (c : BitVec 4) : Option RespKind :=
  if c = 8#4 then some .data else if c = 9#4 then some .done
  else if c = 10#4 then some .fail else none

/-- Kind code of an ALERT (R191). -/
def alertKindCode : BitVec 4 := 12#4

def Status.code : Status → BitVec 4
  | .unsupported => 1#4
  | .denied => 2#4
  | .retry => 3#4
  | .timeout => 4#4
  | .abort => 5#4
  | .mismatch => 6#4
  | .halted => 7#4
  | .linkDown => 8#4
  | .malformed => 9#4

/-- The statuses the responder may give in a FAIL: UNSUPPORTED and ABORT (R71). -/
def responderStatus (c : BitVec 4) : Option Status :=
  if c = 1#4 then some .unsupported else if c = 5#4 then some .abort else none

def Severity.code : Severity → BitVec 2
  | .fatal => 1#2
  | .nonfatal => 2#2
  | .advisory => 3#2

/-- Code 0 names no severity (R152, R193). -/
def Severity.ofCode (c : BitVec 2) : Option Severity :=
  if c = 1#2 then some .fatal else if c = 2#2 then some .nonfatal
  else if c = 3#2 then some .advisory else none

/-- The class an argument of ALERT_ACK names; 0 and 4 to 255 name none (R193). -/
def classOfArg (a : BitVec 8) : Option Severity :=
  if a = 1#8 then some .fatal else if a = 2#8 then some .nonfatal
  else if a = 3#8 then some .advisory else none

/-- Position of a kind among the twenty: its code less 1 (R139). -/
def ErrorKind.index : ErrorKind → Fin 20
  | .integrityRq => 0
  | .integrityRs => 1
  | .creditOverrunRq => 2
  | .creditOverrunRs => 3
  | .malformedRequest => 4
  | .unknownSource => 5
  | .noWindow => 6
  | .accessDenied => 7
  | .mgmtRefused => 8
  | .quotaRetry => 9
  | .responseTimeout => 10
  | .lateResponse => 11
  | .unexpectedResponse => 12
  | .responseMismatch => 13
  | .poisonedData => 14
  | .absorbedWriteFailed => 15
  | .linkDownRq => 16
  | .linkDownRs => 17
  | .discardedWrite => 18
  | .malformedResponse => 19

/-- Code of an error kind, 1 to 20 (R139). -/
def ErrorKind.code (k : ErrorKind) : BitVec 5 := BitVec.ofNat 5 (k.index.val + 1)

def OpState.code : OpState → BitVec 2
  | .run => 0#2
  | .quiescing => 1#2
  | .quiesced => 2#2
  | .halted => 3#2

def TagState.code : TagState → BitVec 2
  | .free => 0#2
  | .active _ => 1#2
  | .quarantined _ => 2#2

def ClassState.code : ClassState → BitVec 2
  | .idle => 0#2
  | .outstanding => 1#2
  | .pending => 2#2

/-- Port of an error record: none 0, RQ 1, RS 2 (R192). -/
def portCode : Option PortId → BitVec 2
  | none => 0#2
  | some .rq => 1#2
  | some .rs => 2#2

def OrderMode.code : OrderMode → BitVec 2
  | .none => 0#2
  | .all => 1#2
  | .flagged => 2#2

/-- Order mode code 3 refuses a source configuration write (R193). -/
def OrderMode.ofCode (c : BitVec 2) : Option OrderMode :=
  if c = 0#2 then some .none else if c = 1#2 then some .all
  else if c = 2#2 then some .flagged else Option.none

def Access.code : Access → BitVec 2
  | .readOnly => 1#2
  | .writeOnly => 2#2
  | .readWrite => 3#2

/-- Access code 0 refuses a window control write (R193). -/
def Access.ofCode (c : BitVec 2) : Option Access :=
  if c = 1#2 then some .readOnly else if c = 2#2 then some .writeOnly
  else if c = 3#2 then some .readWrite else none

def Prescale.code : Prescale → BitVec 2
  | .div1 => 0#2
  | .div16 => 1#2
  | .div256 => 2#2
  | .div4096 => 3#2

/-- Every prescale select value names a divisor (R107). -/
def Prescale.ofCode (c : BitVec 2) : Prescale :=
  if c = 0#2 then .div1 else if c = 1#2 then .div16
  else if c = 2#2 then .div256 else .div4096

def Prescale.divisor : Prescale → Nat
  | .div1 => 1
  | .div16 => 16
  | .div256 => 256
  | .div4096 => 4096

/-! ### Framing (R118, R188) -/

def PoolCode.code : PoolCode → BitVec 2
  | .ordinary => 1#2
  | .management => 2#2
  | .ret => 3#2

/-- The pool both copies of the code name; absent when they disagree or name no pool. Bits 7:4 take
no part (assumption 12). -/
def framedPool (b : BitVec 8) : Option PoolCode :=
  let first := b.extractLsb' 2 2
  let second := b.extractLsb' 0 2
  if first = second then
    if first = 1#2 then some .ordinary else if first = 2#2 then some .management
    else if first = 3#2 then some .ret else none
  else none

/-- The framing byte of a packet (R188). -/
def framingByte (p : PoolCode) : BitVec 8 := (0#4 ++ p.code ++ p.code : BitVec 8)

/-- The byte of a credit-return indication (R188). -/
def indicationByte (p : PoolCode) : BitVec 8 := (1#1 ++ 0#3 ++ p.code ++ p.code : BitVec 8)

/-! ### Check word (R119) -/

/-- One bit taken into the remainder. -/
def crcBit (r : BitVec 16) (b : Bool) : BitVec 16 :=
  if r.msb = b then r <<< 1 else (r <<< 1) ^^^ 0x1021#16

/-- The low `n` bits of a word taken into the remainder, most significant first. -/
def crcBits (w : Word) : Nat → BitVec 16 → BitVec 16
  | 0, r => r
  | n + 1, r => crcBits w n (crcBit r (w.getLsbD n))

/-- The check word over header and payload words in the order they travel. -/
def checkWord (words : List Word) : BitVec 16 :=
  words.foldl (fun r w => crcBits w 32 r) 0xFFFF#16

/-- A packet as the bridge sends it: framing byte, words, check word computed afresh (R119, R187). -/
def sentPacket (p : PoolCode) (words : List Word) : WireItem :=
  .packet (framingByte p) words (checkWord words)

/-! ### Request header (R189) -/

/-- A source ID as the five bits of its field. -/
def sourceBits (s : SourceId) : BitVec 5 := BitVec.ofNat 5 s.val

/-- Source ID field of the first header word, the destination of a response (R189, R190). -/
def headerSource (w : Word) : SourceId := (w.extractLsb' 23 5).toFin

/-- Tag field of the first header word (R189, R190). -/
def headerTag (w : Word) : BitVec 8 := w.extractLsb' 15 8

/-- Kind field of the first header word (R187). -/
def headerKind (w : Word) : BitVec 4 := w.extractLsb' 28 4

/-- The request whose three header words and payload words are given (R187, R189). -/
def parseRequest (kind : ReqKind) (w0 w1 w2 : Word) (payload : List Word) : Request :=
  { kind := kind
    source := headerSource w0
    tag := headerTag w0
    ordered := w0.getLsbD 14
    poison := w0.getLsbD 13
    length := (w0.extractLsb' 0 7).toNat
    address := (w1.extractLsb' 0 8 ++ w2 : BitVec 40)
    override := if w0.getLsbD 12 then some (w0.extractLsb' 10 2).toFin else none
    payload := payload }

/-- Header and payload words of a request toward the responder: source ID and tag as rewritten, ordered
flag clear, override absent, spare bits 0 (R40, R189, R193). -/
def packRequest (kind : ReqKind) (source : SourceId) (tag : BitVec 8) (poison : Bool) (length : Nat)
    (address : Address) (payload : List Word) : List Word :=
  (kind.code ++ sourceBits source ++ tag ++ 0#1 ++ bit poison ++ 0#1 ++ 0#2 ++ 0#3
      ++ BitVec.ofNat 7 length : BitVec 32)
    :: (0#24 ++ address.extractLsb' 32 8 : BitVec 32)
    :: address.extractLsb' 0 32 :: payload

/-! ### Response and ALERT header (R190, R191) -/

/-- The response whose header word and data words are given. -/
def parseResponse (kind : RespKind) (w0 : Word) (data : List Word) : Arrived :=
  { kind := kind
    dest := headerSource w0
    tag := headerTag w0
    status := w0.extractLsb' 11 4
    last := w0.getLsbD 10
    poison := w0.getLsbD 9
    data := data }

/-- Word count field of a response header (R190). -/
def headerCount (w : Word) : Nat := (w.extractLsb' 0 5).toNat

/-- Header and data words of a response toward the requesters (R83, R190, R193). -/
def packResponse (r : Response) : List Word :=
  match r.body with
  | .data seg =>
    (RespKind.data.code ++ sourceBits r.dest ++ r.tag ++ 0#4 ++ bit seg.last ++ bit seg.poison ++ 0#4
      ++ BitVec.ofNat 5 seg.words.length : BitVec 32) :: seg.words
  | .done =>
    [(RespKind.done.code ++ sourceBits r.dest ++ r.tag ++ 0#4 ++ 0#1 ++ 0#1 ++ 0#4 ++ 0#5 : BitVec 32)]
  | .fail status =>
    [(RespKind.fail.code ++ sourceBits r.dest ++ r.tag ++ status.code ++ 0#1 ++ 0#1 ++ 0#4 ++ 0#5
      : BitVec 32)]

/-- The header word of an ALERT (R191). -/
def packAlert (a : Alert) : List Word :=
  [(alertKindCode ++ sourceBits a.dest ++ a.cls.code ++ a.kind.code ++ BitVec.ofNat 4 a.records
    ++ bit a.overflowed ++ 0#11 : BitVec 32)]

/-! ### Words of the management space (R194) -/

/-- A word of the management space. -/
inductive MgmtWord where
  | identification
  | command
  | opState
  | farSource
  | bankStatus
  | holdStatus
  | quarantineLimit
  | tickPeriod
  | tickRun
  | tickCount
  | rqPort
  | rsPort
  | errorStatus
  | errorMask
  | errorSeverity (second : Bool)
  | errorControl
  | recordStatus
  | recordHead (i : Fin 4)
  | alertConfig
  | alertStatus
  | timeoutClass (c : Fin 4)
  | sourceConfig (n : SourceId)
  | sourceCount (n : SourceId)
  | staging (w : Fin 16) (k : Fin 4)
  | active (w : Fin 16) (k : Fin 4)
  | tagFirst (t : PoolTag)
  | tagSecond (t : PoolTag)
  deriving DecidableEq, Repr

/-- The words at offsets 0000h to 006Ch, by word number (R194). -/
def lowMgmtWord (i : Nat) : Option MgmtWord :=
  match i with
  | 0 => some .identification
  | 1 => some .command
  | 2 => some .opState
  | 3 => some .farSource
  | 4 => some .bankStatus
  | 5 => some .holdStatus
  | 6 => some .quarantineLimit
  | 7 => some .tickPeriod
  | 8 => some .tickRun
  | 9 => some .tickCount
  | 10 => some .rqPort
  | 11 => some .rsPort
  | 12 => some .errorStatus
  | 13 => some .errorMask
  | 14 => some (.errorSeverity false)
  | 15 => some (.errorSeverity true)
  | 16 => some .errorControl
  | 17 => some .recordStatus
  | 18 => some (.recordHead 0)
  | 19 => some (.recordHead 1)
  | 20 => some (.recordHead 2)
  | 21 => some (.recordHead 3)
  | 22 => some .alertConfig
  | 23 => some .alertStatus
  | 24 => some (.timeoutClass 0)
  | 25 => some (.timeoutClass 1)
  | 26 => some (.timeoutClass 2)
  | 27 => some (.timeoutClass 3)
  | _ => none

/-- The word at word offset `off` (a multiple of 4); absent when the offset is unassigned (R194, R195). -/
def mgmtWordAt (off : Nat) : Option MgmtWord :=
  let i := off / 4
  if off < 0x100 then lowMgmtWord i
  else if off < 0x200 then
    let n : SourceId := Fin.ofNat 32 ((off - 0x100) / 8)
    if i % 2 = 0 then some (.sourceConfig n) else some (.sourceCount n)
  else if off < 0x400 then none
  else if off < 0x500 then
    some (.staging (Fin.ofNat 16 ((off - 0x400) / 16)) (Fin.ofNat 4 (i % 4)))
  else if off < 0x600 then
    some (.active (Fin.ofNat 16 ((off - 0x500) / 16)) (Fin.ofNat 4 (i % 4)))
  else if off < 0x800 then none
  else if off < 0xA00 then
    let t : PoolTag := Fin.ofNat 64 ((off - 0x800) / 8)
    if i % 2 = 0 then some (.tagFirst t) else some (.tagSecond t)
  else none

/-- Whether an address lies in the management aperture (R168). -/
def inAperture (a : Address) : Bool := decide (Config.apertureBase ≤ a.toNat)

/-- The word offset of an aperture address (R169). -/
def wordOffset (a : Address) : Nat := a.toNat - Config.apertureBase

/-- The word a management request addresses (R169). -/
def Request.word (r : Request) : Option MgmtWord := mgmtWordAt (wordOffset r.address)

/-- The value a one-word write supplies (R174, R200). -/
def Request.value (r : Request) : Word := r.payload.headD 0#32

/-- The steps of the Management Agent, one for each kind of request: the rows of the opcode table. -/
inductive MgmtRow where
  | swapBanks
  | copyActiveToStaging
  | quiesce
  | resume
  | flushSource
  | softReset
  | alertAck
  | popRecord
  | clearRecords
  | clearStatus
  | sourceConfiguration
  | stagingWindow
  | timeoutClass
  | quarantineLimit
  | tickPeriod
  | tickRun
  | errorMask
  | errorSeverity
  | errorControl
  | alertConfiguration
  | farSource
  | other
  deriving DecidableEq, Repr

/-- The row of a command code; a code that names no command falls to MANAGEMENT_WRITE (R192, R193). -/
def commandRow (code : BitVec 8) : MgmtRow :=
  match code.toNat with
  | 1 => .swapBanks
  | 2 => .copyActiveToStaging
  | 3 => .quiesce
  | 4 => .resume
  | 5 => .flushSource
  | 6 => .softReset
  | 7 => .alertAck
  | 8 => .popRecord
  | 9 => .clearRecords
  | 10 => .clearStatus
  | _ => .other

/-- Command code of the command word (R196). -/
def commandCodeOf (v : Word) : BitVec 8 := v.extractLsb' 24 8

/-- Argument of the command word (R196). -/
def commandArgOf (v : Word) : BitVec 8 := v.extractLsb' 16 8

/-- The row that takes a management request: a write by the word it addresses, every other request by
MANAGEMENT_WRITE (assumption 5). -/
def Request.row (r : Request) : MgmtRow :=
  if r.kind = .read then .other
  else
    match r.word with
    | some .command => commandRow (commandCodeOf r.value)
    | some (.sourceConfig _) => .sourceConfiguration
    | some (.staging _ _) => .stagingWindow
    | some (.timeoutClass _) => .timeoutClass
    | some .quarantineLimit => .quarantineLimit
    | some .tickPeriod => .tickPeriod
    | some .tickRun => .tickRun
    | some .errorMask => .errorMask
    | some (.errorSeverity _) => .errorSeverity
    | some .errorControl => .errorControl
    | some .alertConfig => .alertConfiguration
    | some .farSource => .farSource
    | _ => .other

end Sys2Proof.Machine
end

