-- ==== Sys2Proof/Machine/Flags.lean ====
section
/-! DEFINITION. The Error Unit's report and the Alert Unit's raise: what every detecting block calls, and the flags software reads. -/

namespace Sys2Proof.Machine

/-! ### Alert Unit -/

/-- The state of one alert class (R160). -/
def AlertUnit.cls (a : AlertUnit) : Severity → AlertClass
  | .fatal => a.fatal
  | .nonfatal => a.nonfatal
  | .advisory => a.advisory

/-- The Alert Unit with one class replaced. -/
def AlertUnit.setCls (a : AlertUnit) (c : Severity) (x : AlertClass) : AlertUnit :=
  match c with
  | .fatal => { a with fatal := x }
  | .nonfatal => { a with nonfatal := x }
  | .advisory => { a with advisory := x }

/-- An ALERT built now for class `c` (R163). -/
def AlertUnit.build (a : AlertUnit) (c : Severity) (k : ErrorKind) (records : Nat) (ovf : Bool) : Alert :=
  { dest := a.dest, cls := c, kind := k, records := records, overflowed := ovf }

/-- An unmasked error told to its class (R162). -/
def AlertUnit.raise (a : AlertUnit) (c : Severity) (k : ErrorKind) (records : Nat) (ovf : Bool) :
    AlertUnit :=
  let x := a.cls c
  match x.state with
  | .idle =>
    if x.enable && a.destValid then
      a.setCls c
        { x with state := .outstanding, latest := some k, slot := some (a.build c k records ovf) }
    else a
  | .outstanding => a.setCls c { x with state := .pending, latest := some k }
  | .pending => a.setCls c { x with latest := some k }

/-- The class IDLE with latest kind 0 and its slot emptied (R161, R164, R166). -/
def AlertClass.toIdle (x : AlertClass) : AlertClass :=
  { x with state := .idle, latest := none, slot := none }

/-- ALERT_ACK of a class (R164); the log's fill is read in this step. -/
def AlertUnit.ack (a : AlertUnit) (c : Severity) (records : Nat) (ovf : Bool) : AlertUnit :=
  let x := a.cls c
  match x.state with
  | .idle => a
  | .outstanding => a.setCls c x.toIdle
  | .pending =>
    match x.latest with
    | some k =>
      if a.destValid then
        a.setCls c { x with state := .outstanding, slot := some (a.build c k records ovf) }
      else a.setCls c x.toIdle
    | none => a.setCls c x.toIdle

/-- A class after a write of its enable (R161). -/
def AlertClass.setEnable (x : AlertClass) (on : Bool) : AlertClass :=
  if x.enable && !on then { x.toIdle with enable := false } else { x with enable := on }

/-- A write of all five items of the alert configuration word (R161). -/
def AlertUnit.configure (a : AlertUnit) (dest : SourceId) (valid f n d : Bool) : AlertUnit :=
  { dest := dest, destValid := valid, fatal := a.fatal.setEnable f,
    nonfatal := a.nonfatal.setEnable n, advisory := a.advisory.setEnable d }

/-- The slots emptied and every class IDLE, at RQ link down (R166). -/
def AlertUnit.linkLoss (a : AlertUnit) : AlertUnit :=
  { a with fatal := a.fatal.toIdle, nonfatal := a.nonfatal.toIdle, advisory := a.advisory.toIdle }

/-! ### Error Unit -/

/-- Status, mask and severity of a kind (R139). -/
def ErrorUnit.item (e : ErrorUnit) (k : ErrorKind) : ErrorItem := getAt e.items k.index

/-- The Error Unit with the status of a kind set, whatever its mask (R141). -/
def ErrorUnit.setStatus (e : ErrorUnit) (k : ErrorKind) : ErrorUnit :=
  { e with items := putAt e.items k.index { e.item k with status := true } }

/-- A record appended, or the overflowed flag set when the queue holds 8 (R145, R146). -/
def ErrorUnit.append (e : ErrorUnit) (r : Record) : ErrorUnit :=
  if e.records.length < Config.recordRoom then { e with records := e.records ++ [r] }
  else { e with overflowed := true }

/-- Whether the fatal condition holds: a kind with status set, mask clear and severity FATAL (R154). -/
def ErrorUnit.fatalCondition (e : ErrorUnit) : Bool :=
  e.items.toList.any fun i => i.status && !i.mask && decide (i.severity = .fatal)

/-- No identification (R140). -/
def Ident.none : Ident :=
  { source := Option.none, tag := Option.none, pool := Option.none, kind := Option.none,
    address := Option.none }

/-- The identification of a request by its header (R26, R127, R140). -/
def Request.ident (r : Request) : Ident :=
  { source := some r.source, tag := some r.tag, pool := Option.none, kind := some r.kind,
    address := some r.address }

/-- The identification of an ACTIVE entry under its pool tag (R84, R111). -/
def ActiveRec.ident (r : ActiveRec) (t : PoolTag) : Ident :=
  { source := some r.source, tag := some r.tag, pool := some t, kind := some r.kind.toReq,
    address := Option.none }

/-- The identification of an abandoned request (R12, R84). -/
def QuarRec.ident (q : QuarRec) (t : PoolTag) : Ident :=
  { source := some q.source, tag := some q.tag, pool := some t, kind := some q.kind.toReq,
    address := Option.none }

/-- An unmasked report of a kind whose status has been set: record, alert, halt request, in this order
(R142, R143, R153). A request made while HALTED changes nothing, then or later (R155; assumption 10). -/
def reportUnmasked (k : ErrorKind) (port : Option PortId) (id : Ident) (s : State) : State :=
  let sev := (s.err.item k).severity
  let e := s.err.append
    { kind := k, severity := sev, port := port, stamp := s.tick.count, ident := id }
  { s with
    err := e
    alert := s.alert.raise sev k e.records.length e.overflowed
    haltRequested :=
      s.haltRequested || (decide (sev = .fatal) && e.haltOnFatal && decide (s.opState ≠ .halted)) }

/-- A report to the Error Unit (R140, R141, R142). -/
def report (k : ErrorKind) (port : Option PortId) (id : Ident) (s : State) : State :=
  let s1 := { s with err := s.err.setStatus k }
  if (s.err.item k).mask then s1 else reportUnmasked k port id s1

end Sys2Proof.Machine
end

