-- ==== Sys2Proof/Machine/Ops.lean ====
section
/-! DEFINITION. The operations the blocks share: credits, queues, the outstanding count, order elements, termination, Traffic Queue room, issue, the Response Matcher and the teardowns. -/

namespace Sys2Proof.Machine

/-! ### Views (assumption 14) -/

def TagState.isFree : TagState → Bool
  | .free => true
  | _ => false

def TagState.isActive : TagState → Bool
  | .active _ => true
  | _ => false

def TagState.isQuarantined : TagState → Bool
  | .quarantined _ => true
  | _ => false

/-- The number of ACTIVE tags (R15). -/
def State.activeTags (s : State) : Nat := s.tags.toList.countP TagState.isActive

/-- Whether any tag is QUARANTINED (R15, R181). -/
def State.anyQuarantined (s : State) : Bool := s.tags.toList.any TagState.isQuarantined

/-- Words a stored segment takes (R91). -/
def Segment.count (g : Segment) : Nat := g.words.length

/-- Words stored for an element (R90). -/
def Element.stored (e : Element) : Nat := (e.segs.map Segment.count).sum

/-- The elements in use, in slot order (R85). -/
def State.elements (s : State) : List Element := s.slots.toList.filterMap id

/-- The Hold Buffer's reserved words (R90). -/
def State.reservedWords (s : State) : Nat := (s.elements.map Element.reservation).sum

/-- The Hold Buffer's stored words (R90). -/
def State.storedWords (s : State) : Nat := (s.elements.map Element.stored).sum

/-- Element slots in use (R104). -/
def State.slotsInUse (s : State) : Nat := s.elements.length

/-- Answers of the Malformed Answer List that keep a slot of a pool (R127). -/
def State.malformedOf (s : State) (p : PoolCode) : Nat :=
  s.malformedList.countP fun a => decide (a.pool = p)

/-- Free slots of the ORDINARY pool (R121). -/
def State.ordinaryFree (s : State) : Nat :=
  Config.ordinarySlots - (s.forwardQueue.length + s.malformedOf .ordinary)

/-- Free slots of the MANAGEMENT pool (R121). -/
def State.managementFree (s : State) : Nat :=
  Config.managementSlots - (s.mgmtQueue.length + s.malformedOf .management)

/-- Free slots of the RETURN pool (R121). -/
def State.returnFree (s : State) : Nat := Config.returnSlots - s.ingress.length

/-- Whether the Traffic Queue has room (R130). -/
def State.trafficHasRoom (s : State) : Bool := decide (s.trafficQueue.length < Config.trafficRoom)

/-! ### What is put on the links (R123, R132, R133) -/

def putRq (x : WireItem) (s : State) : State := { s with rqWire := s.rqWire ++ [x] }

def putRs (x : WireItem) (s : State) : State := { s with rsWire := s.rsWire ++ [x] }

/-- `n` credit-return indications for a pool of the RQ port, sent only while it is UP (R121, R123). -/
def returnRqCredits (p : PoolCode) (n : Nat) (s : State) : State :=
  if s.rqLink = .up then
    { s with rqWire := s.rqWire ++ List.replicate n (.indication (indicationByte p)) }
  else s

/-- `n` credit-return indications for the RETURN pool, sent only while the RS port is UP (R67, R123). -/
def returnRsCredits (n : Nat) (s : State) : State :=
  if s.rsLink = .up then
    { s with rsWire := s.rsWire ++ List.replicate n (.indication (indicationByte .ret)) }
  else s

/-! ### Queues -/

/-- A response joins the tail of the Traffic Queue (R130). -/
def pushTraffic (r : Response) (s : State) : State := { s with trafficQueue := s.trafficQueue ++ [r] }

/-- The head leaves the Forward Queue, its slot's credit returned; the next head starts NEW (R23, R24). -/
def removeHead (s : State) : State :=
  returnRqCredits .ordinary 1
    { s with forwardQueue := s.forwardQueue.tail, headPhase := .new }

/-! ### Source Table counts (R14) -/

/-- Source `n`'s outstanding count, changed by `f`. -/
def mapCount (n : SourceId) (f : Nat → Nat) (s : State) : State :=
  let e := getAt s.sources n
  { s with sources := putAt s.sources n { e with count := f e.count } }

/-- The count rises by 1 at an issue. -/
def raiseCount (n : SourceId) (s : State) : State := mapCount n (· + 1) s

/-- The count falls by 1 when a request it counts stops being counted. -/
def lowerCount (n : SourceId) (s : State) : State := mapCount n (· - 1) s

/-- Every outstanding count set to 0 (R18, R20). -/
def clearCounts (s : State) : State :=
  (List.finRange 32).foldl (fun s n => mapCount n (fun _ => 0) s) s

/-! ### Order elements (chapter 5) -/

/-- The element in a slot. -/
def State.element (s : State) (l : SlotId) : Option Element := getAt s.slots l

/-- The head slot of a source's return order list (R89). -/
def State.headSlot (s : State) (n : SourceId) : Option SlotId := (getAt s.lists n).head?

/-- A slot's content replaced. -/
def setSlot (l : SlotId) (x : Option Element) (s : State) : State :=
  { s with slots := putAt s.slots l x }

/-- The element of a slot changed by `f`; a free slot stays free. -/
def mapElement (l : SlotId) (f : Element → Element) (s : State) : State :=
  setSlot l ((s.element l).map f) s

/-- The element leaves the source's list and its slot becomes free, with its reservation and any
stored segments (R85, R90, R92). -/
def removeElement (n : SourceId) (l : SlotId) (s : State) : State :=
  { s with
    lists := putAt s.lists n ((getAt s.lists n).erase l)
    slots := putAt s.slots l none }

/-- An element that has failed: stored segments discarded, reservation released, link absent (R92, R99). -/
def Element.fail (e : Element) (st : Status) : Element :=
  { e with state := .failed st, segs := [], reservation := 0, storedDone := false, link := none }

/-- The delivering head: AWAITING with no stored segment (R89). -/
def Element.delivers (e : Element) : Bool :=
  decide (e.state = .awaiting) && e.segs.isEmpty

/-- Whether the element in slot `l` is the delivering head of source `n`'s list (R74, R89). -/
def State.deliveringHead (s : State) (n : SourceId) (l : SlotId) : Bool :=
  decide (s.headSlot n = some l) && (s.element l).any Element.delivers

/-- All lists emptied and all slots freed (R101). -/
def clearLists (s : State) : State :=
  { s with slots := fillTable 64 none, lists := fillTable 32 [] }

/-! ### Pool tags -/

def setTag (t : PoolTag) (x : TagState) (s : State) : State :=
  { s with tags := putAt s.tags t x }

/-- The drained event: in QUIESCING with no tag ACTIVE the state becomes QUIESCED (R15, R178). -/
def drained (s : State) : State :=
  if s.opState = .quiescing ∧ s.activeTags = 0 then { s with opState := .quiesced } else s

/-- An ACTIVE tag leaves ACTIVE for `x`, and the drained event is reported if it was the last (R15). -/
def leaveActive (t : PoolTag) (x : TagState) (s : State) : State := drained (setTag t x s)

/-- The elapsed ticks since a reading of the tick count, modulo 65536 (R109). -/
def State.elapsed (s : State) (since : Tick) : Nat := (s.tick.count - since).toNat

/-! ### Termination (R7 to R10) -/

/-- Where a terminated tag goes (R7). -/
inductive TagDest where
  | quarantined
  | free
  deriving DecidableEq, Repr

/-- The QUARANTINED record of an abandoned entry (R10). -/
def State.quarantineOf (s : State) (r : ActiveRec) : QuarRec :=
  { source := r.source, tag := r.tag, kind := r.kind, startTick := s.tick.count,
    limit := s.quarantineLimit }

/-- The state a terminated tag goes to (R10). -/
def State.destState (s : State) (r : ActiveRec) : TagDest → TagState
  | .quarantined => .quarantined (s.quarantineOf r)
  | .free => .free

/-- A termination's FAIL for an unordered entry: into the Traffic Queue at once when the backlog is
empty and the queue has room, else into the Answer Backlog (R8). -/
def placeFail (a : BacklogAnswer) (s : State) : State :=
  if s.backlog.isEmpty && s.trafficHasRoom then
    pushTraffic { dest := a.source, tag := a.tag, body := .fail a.status } s
  else { s with backlog := s.backlog ++ [a] }

/-- The answer and the count of a terminated entry (R7 parts 1 and 2, R8, R9, R14). -/
def answerEntry (r : ActiveRec) (ans : Option Status) (s : State) : State :=
  if r.absorbed then s
  else
    match r.link, ans with
    | none, some st =>
      lowerCount r.source (placeFail { source := r.source, tag := r.tag, status := st } s)
    | none, none => lowerCount r.source s
    | some l, some st => mapElement l (fun e => e.fail st) s
    | some l, none => lowerCount r.source (removeElement r.source l s)

/-- Termination of one tag; a tag that is not ACTIVE is left alone (R7). -/
def terminate (t : PoolTag) (ans : Option Status) (dest : TagDest) (s : State) : State :=
  match getAt s.tags t with
  | .active r => leaveActive t (s.destState r dest) (answerEntry r ans s)
  | _ => s

/-- Every ACTIVE entry that `which` picks is terminated, in ascending order of pool tag (R7). -/
def terminateAll (which : ActiveRec → Bool) (ans : Option Status) (dest : TagDest) (s : State) : State :=
  (List.finRange 64).foldl
    (fun s t =>
      match getAt s.tags t with
      | .active r => if which r then terminate t ans dest s else s
      | _ => s) s

/-- Every QUARANTINED tag becomes FREE (R19, R20). -/
def freeQuarantined (s : State) : State :=
  (List.finRange 64).foldl
    (fun s t => if (getAt s.tags t).isQuarantined then setTag t .free s else s) s

/-! ### The answers of Dispatch (R25, R35, R42) -/

/-- The phase of the head replaced (R24). -/
def setPhase (p : HeadPhase) (s : State) : State := { s with headPhase := p }

/-- A head that has passed classification while the RS port is DOWN: a NON-POSTED one is to be answered
FAIL LINK_DOWN, any other is discarded with DISCARDED_WRITE (R42). -/
def linkDownHead (req : Request) (cls : IssueClass) (s : State) : State :=
  match cls with
  | .nonPosted => setPhase (.answering .linkDown) s
  | .absorbed => removeHead (report .discardedWrite (some .rs) req.ident s)
  | .plainPosted => removeHead (report .discardedWrite (some .rs) req.ident s)

/-- A CLASSIFIED head with its mark clear, in RUN with the RS port DOWN, is handled at once (R42). -/
def linkDownClassified (s : State) : State :=
  match s.forwardQueue, s.headPhase with
  | w :: _, .classified c =>
    if !w.mark && decide (s.opState = .run) && decide (s.rsLink = .down) then
      linkDownHead w.req c.cls s
    else s
  | _, _ => s

/-! ### Classification (R26 to R34) -/

/-- First byte address of a base held in units of 4096 bytes (R53). -/
def baseAddress (b : BitVec 28) : Address := (b ++ 0#12 : BitVec 40)

/-- Size in bytes of a window (R53). -/
def Window.size (w : Window) : Nat := 2 ^ w.sizeExp.toNat

/-- Whether a byte address lies in the window (R29, R53). -/
def Window.contains (w : Window) (a : Nat) : Bool :=
  decide ((baseAddress w.base).toNat ≤ a) && decide (a < (baseAddress w.base).toNat + w.size)

/-- The bank with the role ACTIVE (R52). -/
def State.activeWindows (s : State) : Table Window 16 := getAt s.banks s.activeBank

/-- The number of the bank with the role STAGING (R52). -/
def State.stagingBank (s : State) : Fin 2 := 1 - s.activeBank

/-- The lowest-numbered valid window of the ACTIVE bank that contains an address (R29). -/
def State.lookup (s : State) (a : Address) : Option (Fin 16) :=
  (List.finRange 16).find? fun i =>
    let w := getAt s.activeWindows i
    w.valid && w.contains a.toNat

/-- The last byte of a request (R30). -/
def Request.lastByte (r : Request) : Nat := r.address.toNat + 4 * r.length - 1

/-- The kinds a window's access admits (R32). -/
def Access.admits : Access → ReqKind → Bool
  | .readOnly, .read => true
  | .readOnly, .write => false
  | .readOnly, .cwrite => false
  | .writeOnly, .read => false
  | .writeOnly, .write => true
  | .writeOnly, .cwrite => true
  | .readWrite, _ => true

/-- The ordering decision for a NON-POSTED request (R34). -/
def OrderMode.orders : OrderMode → Bool → Bool
  | .none, _ => false
  | .all, _ => true
  | .flagged, flag => flag

/-- The issue class of a request classified to a window (R34). -/
def Window.issueClass (w : Window) : ReqKind → IssueClass
  | .read => .nonPosted
  | .cwrite => .nonPosted
  | .write => if w.absorb then .absorbed else .plainPosted

/-- The result of classification: the first stage that refuses, with its error kind and status, or the
classification result. -/
inductive Verdict where
  | refused (kind : ErrorKind) (status : Status)
  | passed (c : Classified)
  deriving DecidableEq, Repr

/-- The classification result of a request that passed stages 1 to 6 (R27, R34). -/
def State.passResult (s : State) (req : Request) (i : Fin 16) : Classified :=
  let w := getAt s.activeWindows i
  let cls := w.issueClass req.kind
  let ordered := decide (cls = .nonPosted) && (getAt s.sources req.source).order.orders req.ordered
  { cls := cls
    window := i
    bank := s.activeBank
    base := w.base
    transBase := w.transBase
    timeoutClass := if cls = .plainPosted then 0 else req.override.getD w.cls
    ordered := ordered
    reservation := if ordered && decide (req.kind = .read) then req.length else 0 }

/-- Classification in its seven stages (R26). It reads the tables and changes none. -/
def State.classify (s : State) (req : Request) : Verdict :=
  let e := getAt s.sources req.source
  if !e.valid || decide (e.quota = 0#5) then .refused .unknownSource .unsupported
  else
    match s.lookup req.address with
    | none => .refused .noWindow .unsupported
    | some i =>
      let w := getAt s.activeWindows i
      if !w.contains req.lastByte || decide (Config.apertureBase ≤ req.lastByte) then
        .refused .accessDenied .denied
      else if !w.groups.getLsbD e.group.val then .refused .accessDenied .denied
      else if !w.access.admits req.kind then .refused .accessDenied .denied
      else if decide (req.kind ≠ .write) && decide (e.quota.toNat ≤ e.count) then
        .refused .quotaRetry .retry
      else .passed (s.passResult req i)

/-- A refused head: its error is raised, a READ or CWRITE is to be answered, a WRITE is discarded (R35). -/
def refuseHead (req : Request) (k : ErrorKind) (st : Status) (s : State) : State :=
  let s1 := report k (some .rq) req.ident s
  if req.kind = .write then removeHead s1 else setPhase (.answering st) s1

/-- The NEW head, its mark clear, taken up in RUN (R26, R42). -/
def classifyHead (req : Request) (s : State) : State :=
  match s.classify req with
  | .refused k st => refuseHead req k st s
  | .passed c =>
    if s.rsLink = .down then linkDownHead req c.cls s else setPhase (.classified c) s

/-! ### Issue (R37 to R41) -/

/-- The lowest-numbered FREE pool tag, given only while the Answer Backlog is empty (R2). -/
def State.freeTag (s : State) : Option PoolTag :=
  if s.backlog.isEmpty then (List.finRange 64).find? fun t => (getAt s.tags t).isFree else none

/-- The lowest-numbered free element slot (R85). -/
def State.freeSlot (s : State) : Option SlotId :=
  (List.finRange 64).find? fun l => (s.element l).isNone

/-- The resources a classified head takes at issue: nothing but the credit, a tag, or a tag and a slot. -/
inductive Grant where
  | plain
  | tag (t : PoolTag)
  | tagAndSlot (t : PoolTag) (l : SlotId)
  deriving DecidableEq, Repr

/-- What the head would be given; absent while a resource it needs is missing (R37). -/
def State.grant (s : State) (c : Classified) : Option Grant :=
  if s.rsCredits = 0 then none
  else if c.cls = .plainPosted then some .plain
  else
    match s.freeTag with
    | none => none
    | some t =>
      if c.ordered then
        match s.freeSlot with
        | none => none
        | some l =>
          if s.reservedWords + c.reservation ≤ Config.holdWords then some (.tagAndSlot t l) else none
      else some (.tag t)

/-- The kind recorded for an issued request: CWRITE for a CWRITE and an absorbed WRITE (R3). -/
def entryKind : ReqKind → EntryKind
  | .read => .read
  | .write => .cwrite
  | .cwrite => .cwrite

/-- The ACTIVE record of an issued request (R3). -/
def State.issueRecord (s : State) (req : Request) (c : Classified) (link : Option SlotId) : ActiveRec :=
  { source := req.source
    tag := req.tag
    kind := entryKind req.kind
    length := if req.kind = .read then req.length else 0
    received := 0
    window := c.window
    bank := c.bank
    limit := getAt s.timeoutLimits c.timeoutClass
    issueTick := s.tick.count
    ordered := c.ordered
    absorbed := decide (c.cls = .absorbed)
    delivered := false
    link := link }

/-- The element of an issued ordered request (R39, R86). -/
def issueElement (req : Request) (c : Classified) (t : PoolTag) : Element :=
  { state := .awaiting, tag := req.tag, kind := entryKind req.kind, reservation := c.reservation,
    segs := [], storedDone := false, link := some t }

/-- The translated address (R40). -/
def translate (c : Classified) (a : Address) : Address :=
  baseAddress c.transBase + (a - baseAddress c.base)

/-- The words of the rewritten request (R40). -/
def State.rewritten (s : State) (req : Request) (c : Classified) (tag : BitVec 8) : List Word :=
  packRequest (if c.cls = .absorbed then .cwrite else req.kind) s.farSource tag req.poison req.length
    (translate c req.address) req.payload

/-- The rewritten request sent on the RS port with one RS transmit credit (R40, R133). -/
def sendRequest (req : Request) (c : Classified) (tag : BitVec 8) (s : State) : State :=
  putRs (sentPacket .ordinary (s.rewritten req c tag)) { s with rsCredits := s.rsCredits - 1 }

/-- A pool tag as the tag field of a request (R40). -/
def tagBits (t : PoolTag) : BitVec 8 := BitVec.ofNat 8 t.val

/-- The count of a NON-POSTED request rises, that of an ABSORBED one does not change (R39, R14). -/
def countIssue (req : Request) (c : Classified) (s : State) : State :=
  if c.cls = .nonPosted then raiseCount req.source s else s

/-- An AWAITING element filled in slot `l` and appended to the source's list (R39). -/
def appendElement (n : SourceId) (l : SlotId) (e : Element) (s : State) : State :=
  { s with
    slots := putAt s.slots l (some e)
    lists := putAt s.lists n (getAt s.lists n ++ [l]) }

/-- The issue of the head under what it is given, in one step (R39, R41). -/
def issueWith (req : Request) (c : Classified) (s : State) : Grant → State
  | .plain => removeHead (sendRequest req c 0#8 s)
  | .tag t =>
    removeHead (sendRequest req c (tagBits t)
      (countIssue req c (setTag t (.active (s.issueRecord req c none)) s)))
  | .tagAndSlot t l =>
    removeHead (sendRequest req c (tagBits t)
      (countIssue req c
        (appendElement req.source l (issueElement req c t)
          (setTag t (.active (s.issueRecord req c (some l))) s))))

/-- The request, result and grant of a head that can be issued now: CLASSIFIED, mark clear, RUN, the RS
port UP and every resource present (R25, R37). -/
def State.issuable (s : State) : Option (Request × Classified × Grant) :=
  match s.forwardQueue, s.headPhase with
  | w :: _, .classified c =>
    if !w.mark && decide (s.opState = .run) && decide (s.rsLink = .up) then
      (s.grant c).map fun g => (w.req, c, g)
    else none
  | _, _ => none

/-- The head issued, if it can be. -/
def issueNow (s : State) : State :=
  match s.issuable with
  | some (req, c, g) => issueWith req c s g
  | none => s

/-- Whether the head is CLASSIFIED. -/
def State.headClassified (s : State) : Bool :=
  match s.headPhase with
  | .classified _ => !s.forwardQueue.isEmpty
  | _ => false

/-- The end of a step that may have brought the last missing resource of a head that waited CLASSIFIED
before the step: it is issued in the same step (R37; assumption 9), its indication and its packet after what the
step has sent (assumption 13). -/
def issueAfter (before after : State) : State :=
  if before.headClassified && before.issuable.isNone then issueNow after else after

/-! ### Traffic Queue room (R131) -/

/-- The producers of the ring, in its order (R131). -/
inductive Producer where
  | malformedList
  | dispatch
  | backlog
  | matcher
  | drain (n : SourceId)
  deriving DecidableEq, Repr

/-- The producer at a position of the ring (R131). -/
def Producer.at (p : Fin 36) : Producer :=
  if p.val = 0 then .malformedList
  else if p.val = 1 then .dispatch
  else if p.val = 2 then .backlog
  else if p.val = 3 then .matcher
  else .drain (Fin.ofNat 32 (p.val - 4))

/-- The next packet of a draining head, absent for a delivering head (R89, R94). -/
def Element.drainBody (e : Element) : Option Body :=
  match e.segs with
  | g :: _ => some (.data g)
  | [] =>
    match e.state with
    | .awaiting => none
    | .complete => if e.storedDone then some .done else none
    | .failed st => some (.fail st)

/-- Whether the packet a draining head sends next is its final response (R94). -/
def Element.drainsFinal (e : Element) : Bool :=
  match e.segs with
  | [] => true
  | [_] => decide (e.state = .complete) && !e.storedDone
  | _ :: _ :: _ => false

/-- The delivered flag of an ACTIVE entry set (R4). -/
def setDelivered (t : PoolTag) (s : State) : State :=
  match getAt s.tags t with
  | .active r => setTag t (.active { r with delivered := true }) s
  | _ => s

/-- The entry of an AWAITING element has a segment delivered (R4, R94). -/
def markDelivered (e : Element) (s : State) : State :=
  match e.link with
  | some t => setDelivered t s
  | none => s

/-- The element of slot `l`, the head of source `n`'s list, with its next packet placed: the stored
segment leaves the Hold Buffer, and the element is removed with its final response (R94). -/
def afterDrain (n : SourceId) (l : SlotId) (e : Element) (s : State) : State :=
  if e.drainsFinal then lowerCount n (removeElement n l s)
  else markDelivered e (mapElement l (fun e => { e with segs := e.segs.tail }) s)

/-- The drain step of source `n`'s head, given one place (R94). -/
def drainHead (n : SourceId) (s : State) : State :=
  match s.headSlot n with
  | none => s
  | some l =>
    match s.element l with
    | none => s
    | some e =>
      match e.drainBody with
      | none => s
      | some body => afterDrain n l e (pushTraffic { dest := n, tag := e.tag, body := body } s)

/-- Whether source `n`'s head is a draining head (R89). -/
def State.drains (s : State) (n : SourceId) : Bool :=
  match s.headSlot n with
  | none => false
  | some l => (s.element l).any fun e => e.drainBody.isSome

/-! ### The Response Matcher (chapter 4) -/

/-- Whether a packet is inconsistent with the record of its ACTIVE tag (R71). -/
def Arrived.inconsistent (p : Arrived) (r : ActiveRec) : Bool :=
  match p.kind, r.kind with
  | .data, .cwrite => true
  | .data, .read =>
    decide (r.length < r.received + p.data.length) ||
      (p.last && decide (r.received + p.data.length < r.length))
  | .done, .read => true
  | .done, .cwrite => false
  | .fail, _ => (responderStatus p.status).isNone

/-- Whether a packet ends the request it answers: DATA with the last flag, DONE, FAIL (R12). -/
def Arrived.isFinal (p : Arrived) : Bool :=
  match p.kind with
  | .data => p.last
  | .done => true
  | .fail => true

/-- The pool tag a packet names; absent when its tag is 64 or above (R65). -/
def Arrived.pool (p : Arrived) : Option PoolTag :=
  if h : p.tag.toNat < 64 then some ⟨p.tag.toNat, h⟩ else none

/-- The state of the tag a packet names; a tag of 64 or above is as a FREE tag (R65). -/
def State.tagStateOf (s : State) (p : Arrived) : TagState :=
  match p.pool with
  | some t => getAt s.tags t
  | none => .free

/-- Whether a live response for the entry goes straight to the Traffic Queue: unordered, or its element
is the delivering head (R74). -/
def State.forwards (s : State) (r : ActiveRec) : Bool :=
  match r.link with
  | none => true
  | some l => s.deliveringHead r.source l

/-- Whether handling the packet now would place a packet in the Traffic Queue (R66). -/
def State.needsRoom (s : State) (p : Arrived) : Bool :=
  match s.tagStateOf p with
  | .active r => !p.inconsistent r && !r.absorbed && s.forwards r
  | _ => false

/-- The segment a DATA packet carries (R73, R75). -/
def Arrived.segment (p : Arrived) : Segment := { words := p.data, last := p.last, poison := p.poison }

/-- A final response of a non-absorbed entry placed in the Traffic Queue: the element, if any, is
removed, and the count falls (R76, R77, R79, R80). -/
def endForwarded (r : ActiveRec) (s : State) : State :=
  match r.link with
  | none => lowerCount r.source s
  | some l => lowerCount r.source (removeElement r.source l s)

/-- The entry's element changed by `f`. -/
def mapLinked (r : ActiveRec) (f : Element → Element) (s : State) : State :=
  match r.link with
  | none => s
  | some l => mapElement l f s

/-- A body sent to the requester of an entry (R83). -/
def forwardBody (r : ActiveRec) (b : Body) (s : State) : State :=
  pushTraffic { dest := r.source, tag := r.tag, body := b } s

/-- The record after a consistent DATA segment: words received raised, delivered flag set when it was
forwarded (R4, R73, R74). -/
def ActiveRec.receive (r : ActiveRec) (p : Arrived) (forwarded : Bool) : ActiveRec :=
  { r with received := r.received + p.data.length, delivered := r.delivered || forwarded }

/-- A consistent DATA segment forwarded (R74, R76). -/
def forwardData (t : PoolTag) (r : ActiveRec) (p : Arrived) (s : State) : State :=
  let s1 := forwardBody r (.data p.segment) s
  if p.last then leaveActive t .free (endForwarded r s1)
  else setTag t (.active (r.receive p true)) s1

/-- A consistent DATA segment stored behind the element's stored segments (R75, R76). -/
def storeData (t : PoolTag) (r : ActiveRec) (p : Arrived) (s : State) : State :=
  let s1 := mapLinked r (fun e => { e with segs := e.segs ++ [p.segment] }) s
  if p.last then
    leaveActive t .free (mapLinked r (fun e => { e with state := .complete, link := none }) s1)
  else setTag t (.active (r.receive p false)) s1

/-- A consistent DATA segment (R73). -/
def takeData (t : PoolTag) (r : ActiveRec) (p : Arrived) (s : State) : State :=
  let s1 := if p.poison then report .poisonedData (some .rs) (r.ident t) s else s
  if s.forwards r then forwardData t r p s1 else storeData t r p s1

/-- A consistent DONE (R77, R78). -/
def takeDone (t : PoolTag) (r : ActiveRec) (s : State) : State :=
  if r.absorbed then leaveActive t .free s
  else if s.forwards r then leaveActive t .free (endForwarded r (forwardBody r .done s))
  else
    leaveActive t .free
      (mapLinked r (fun e => { e with state := .complete, storedDone := true, link := none }) s)

/-- A consistent FAIL from the responder (R79, R80, R81). -/
def takeFail (t : PoolTag) (r : ActiveRec) (st : Status) (s : State) : State :=
  if r.absorbed then leaveActive t .free (report .absorbedWriteFailed (some .rs) (r.ident t) s)
  else if s.forwards r then leaveActive t .free (endForwarded r (forwardBody r (.fail st) s))
  else leaveActive t .free (mapLinked r (fun e => e.fail st) s)

/-- A consistent packet under an ACTIVE tag (R73, R77, R79). -/
def takeConsistent (t : PoolTag) (r : ActiveRec) (p : Arrived) (s : State) : State :=
  match p.kind with
  | .data => takeData t r p s
  | .done => takeDone t r s
  | .fail =>
    match responderStatus p.status with
    | some st => takeFail t r st s
    | none => s

/-- The identification of an unexpected response: its pool tag when 63 or below (R84). -/
def Arrived.ident (p : Arrived) : Ident := { Ident.none with pool := p.pool }

/-- A late response under a QUARANTINED tag (R70). -/
def takeLate (t : PoolTag) (q : QuarRec) (p : Arrived) (s : State) : State :=
  let s1 := report .lateResponse (some .rs) (q.ident t) s
  if p.isFinal then setTag t .free s1 else s1

/-- An inconsistent packet (R72). -/
def takeMismatch (t : PoolTag) (r : ActiveRec) (s : State) : State :=
  terminate t (some .mismatch) .quarantined (report .responseMismatch (some .rs) (r.ident t) s)

/-- A packet handled by the state of its tag (R65, R69 to R81). -/
def handlePacket (p : Arrived) (s : State) : State :=
  match p.pool with
  | none => report .unexpectedResponse (some .rs) p.ident s
  | some t =>
    match getAt s.tags t with
    | .free => report .unexpectedResponse (some .rs) p.ident s
    | .quarantined q => takeLate t q p s
    | .active r => if p.inconsistent r then takeMismatch t r s else takeConsistent t r p s

/-- The oldest packet taken from the ingress buffer and handled, its slot's credit returned (R65, R67) before what
a head issued in the step sends (assumption 13). -/
def matcherTake (s : State) : State :=
  match s.ingress with
  | [] => s
  | p :: rest => handlePacket p (returnRsCredits 1 { s with ingress := rest })

/-- Whether the oldest packet needs room (R66). -/
def State.matcherNeedsRoom (s : State) : Bool :=
  match s.ingress with
  | [] => false
  | p :: _ => s.needsRoom p

/-- Whether the oldest packet is inconsistent with its ACTIVE entry (R71, R72). -/
def State.matcherMismatches (s : State) : Bool :=
  match s.ingress with
  | [] => false
  | p :: _ =>
    match s.tagStateOf p with
    | .active r => p.inconsistent r
    | _ => false

/-! ### The room distribution (R131) -/

/-- An ANSWERING head's FAIL enters the Traffic Queue and the head leaves (R35). -/
def placeAnswer (s : State) : State :=
  match s.forwardQueue, s.headPhase with
  | w :: _, .answering st =>
    removeHead (pushTraffic { dest := w.req.source, tag := w.req.tag, body := .fail st } s)
  | _, _ => s

/-- The oldest backlog answer enters the Traffic Queue (R11). -/
def placeBacklog (s : State) : State :=
  match s.backlog with
  | [] => s
  | a :: rest =>
    pushTraffic { dest := a.source, tag := a.tag, body := .fail a.status } { s with backlog := rest }

/-- The oldest FAIL MALFORMED enters the Traffic Queue and its slot is freed (R127). -/
def placeMalformed (s : State) : State :=
  match s.malformedList with
  | [] => s
  | a :: rest =>
    returnRqCredits a.pool 1
      (pushTraffic { dest := a.dest, tag := a.tag, body := .fail .malformed }
        { s with malformedList := rest })

/-- Whether the head of the Forward Queue is ANSWERING. -/
def State.answers (s : State) : Bool :=
  match s.forwardQueue, s.headPhase with
  | _ :: _, .answering _ => true
  | _, _ => false

/-- Whether a producer has a packet to place (R131). A draining head sends only while the RQ link is UP
(R94). -/
def State.ready (s : State) : Producer → Bool
  | .malformedList => !s.malformedList.isEmpty
  | .dispatch => s.answers
  | .backlog => !s.backlog.isEmpty
  | .matcher => s.matcherNeedsRoom
  | .drain n => decide (s.rqLink = .up) && s.drains n

/-- A producer given one place acts as its own rule states (R131). -/
def serve : Producer → State → State
  | .malformedList, s => placeMalformed s
  | .dispatch, s => placeAnswer s
  | .backlog, s => placeBacklog s
  | .matcher, s => matcherTake s
  | .drain n, s => drainHead n s

/-- A producer's own step: it places one packet if it has one and finds a free place (R130). -/
def placeDirect (p : Producer) (s : State) : State :=
  if s.trafficHasRoom && s.ready p then serve p s else s

/-- The ring from a position on, once round (R131). -/
def ringFrom (p : Fin 36) : List (Fin 36) := (List.finRange 36).map (p + ·)

/-- The producer at a position is served and the pointer moves to the position after it (R131). -/
def serveAt (p : Fin 36) (s : State) : State :=
  { serve (Producer.at p) s with roomPointer := p + 1 }

/-- A freed place is given to the first waiting producer found going round the ring (R131). -/
def givePlace (s : State) : State :=
  match (ringFrom s.roomPointer).find? fun p => s.ready (Producer.at p) with
  | some p => serveAt p s
  | none => s

/-- Whether a step made the producer at a position ready. The Matcher is left out: it takes its next
packet in a later step (R65). -/
def madeReady (before after : State) (p : Fin 36) : Bool :=
  decide (Producer.at p ≠ .matcher) && after.ready (Producer.at p) && !before.ready (Producer.at p)

/-- The places still free after a step's own answers, given out once round the ring to the producers the
step made ready (R131; assumption 8). -/
def distribute (before after : State) : State :=
  ((ringFrom after.roomPointer).filter (madeReady before after)).foldl
    (fun s p => if s.trafficHasRoom && s.ready (Producer.at p) then serveAt p s else s) after

/-! ### Expiry and lapse (R110 to R112) -/

/-- Whether an entry is due to expire (R110). -/
def State.expiryDue (s : State) (r : ActiveRec) : Bool :=
  decide (r.limit.toNat ≤ s.elapsed r.issueTick)

/-- Whether a quarantine is due to lapse (R110). -/
def State.lapseDue (s : State) (q : QuarRec) : Bool :=
  decide (q.limit.toNat ≤ s.elapsed q.startTick)

/-- Expiry of one tag that is due (R111). -/
def expireTag (t : PoolTag) (s : State) : State :=
  match getAt s.tags t with
  | .active r =>
    if s.expiryDue r then
      terminate t (some .timeout) .quarantined
        (report .responseTimeout (some .rs) (r.ident t) s)
    else s
  | _ => s

/-- Lapse of one tag that is due (R112). -/
def lapseTag (t : PoolTag) (s : State) : State :=
  match getAt s.tags t with
  | .quarantined q => if s.lapseDue q then setTag t .free s else s
  | _ => s

/-- The expiries, in ascending pool tag order, then the lapses (R110). -/
def expireAndLapse (s : State) : State :=
  (List.finRange 64).foldl (fun s t => lapseTag t s)
    ((List.finRange 64).foldl (fun s t => expireTag t s) s)

/-! ### The Tick Generator (R106, R109) -/

/-- The Tick Generator at an underflow: the count rises, pending values are adopted, the counter is
loaded again and the prescaler starts a division (R106, R109). -/
def TickGen.underflow (g : TickGen) : TickGen :=
  let (ps, rl) := g.pendingPeriod.getD (g.prescale, g.reload)
  { prescale := ps, reload := rl, pendingPeriod := none, downCounter := rl, run := g.run,
    count := g.count + 1#16, division := 0 }

/-- A tick event, whole: the count's rise and the work it brings (R109, R110, R131). -/
def tickEvent (s : State) : State :=
  distribute s (expireAndLapse { s with tick := s.tick.underflow })

/-- One prescaled step taken by the down counter (R106). -/
def prescaledStep (s : State) : State :=
  if s.tick.downCounter = 0#16 then tickEvent s
  else { s with tick := { s.tick with downCounter := s.tick.downCounter - 1#16 } }

/-- One core clock period (R106, R108): the prescaler divides while the run flag is set. -/
def clockPeriod (s : State) : State :=
  if !s.tick.run then s
  else if s.tick.division + 1 < s.tick.prescale.divisor then
    { s with tick := { s.tick with division := s.tick.division + 1 } }
  else
    issueAfter s (prescaledStep { s with tick := { s.tick with division := 0 } })

/-! ### Teardowns -/

/-- The ACTIVE entries that are not absorbed (R17, R18). -/
def ActiveRec.counted (r : ActiveRec) : Bool := !r.absorbed

/-- The RQ port from UP to DOWN, with everything it reaches, up to the report (R134). -/
def rqTeardown (s : State) : State :=
  let s1 := { s with
    rqLink := .down, rqCredits := 0, forwardQueue := [], headPhase := .new, mgmtQueue := [],
    mgmtSlots := [], trafficQueue := [], malformedList := [] }
  let s2 := clearLists (clearCounts (terminateAll ActiveRec.counted none .quarantined s1))
  { s2 with backlog := [], alert := s2.alert.linkLoss }

/-- RQ link down: the teardown, then LINK_DOWN_RQ (R134). -/
def rqDown (s : State) : State := report .linkDownRq (some .rq) Ident.none (rqTeardown s)

/-- The RS port from UP to DOWN, with everything it reaches, up to the report (R136). -/
def rsTeardown (s : State) : State :=
  let s1 := { s with rsLink := .down, rsCredits := 0, ingress := [] }
  linkDownClassified (freeQuarantined (terminateAll (fun _ => true) (some .linkDown) .free s1))

/-- RS link down: the teardown, then LINK_DOWN_RS, then the places still free (R136, R131). -/
def rsDown (s : State) : State :=
  distribute s (report .linkDownRs (some .rs) Ident.none (rsTeardown s))

/-- A waiting request after the halt: WRITEs gone, the others marked (R43). -/
def markHalted (q : List Waiting) : List Waiting :=
  (q.filter fun w => decide (w.req.kind ≠ .write)).map fun w => { w with mark := true }

/-- The phase of the head after the halt: a removed head leaves a NEW one; a CLASSIFIED or ANSWERING head
answers HALTED (R43); a marked NEW head stays NEW (assumption 21). -/
def haltPhase (q : List Waiting) (p : HeadPhase) : HeadPhase :=
  match q with
  | [] => .new
  | w :: _ =>
    if w.req.kind = .write then .new
    else
      match p with
      | .new => .new
      | .classified _ => .answering .halted
      | .answering _ => .answering .halted

/-- The halt teardown of the Forward Queue (R43). -/
def haltQueue (s : State) : State :=
  returnRqCredits .ordinary (s.forwardQueue.countP fun w => decide (w.req.kind = .write))
    { s with
      forwardQueue := markHalted s.forwardQueue
      headPhase := haltPhase s.forwardQueue s.headPhase }

/-- The state enters HALTED with the halt teardown (R16, R180). -/
def haltTeardown (s : State) : State :=
  distribute s (haltQueue
    (terminateAll (fun _ => true) (some .halted) .quarantined { s with opState := .halted }))

/-- A waiting head after requests are removed by a flush of source `n`: another source's head keeps its
phase, a removed head leaves a NEW one (R44). -/
def flushPhase (n : SourceId) (q : List Waiting) (p : HeadPhase) : HeadPhase :=
  match q with
  | [] => .new
  | w :: _ => if w.req.source = n then .new else p

/-- FLUSH_SOURCE(n) in the Forward Queue (R44). -/
def flushQueue (n : SourceId) (s : State) : State :=
  returnRqCredits .ordinary (s.forwardQueue.countP fun w => decide (w.req.source = n))
    { s with
      forwardQueue := s.forwardQueue.filter fun w => decide (w.req.source ≠ n)
      headPhase := flushPhase n s.forwardQueue s.headPhase }

/-- Every element of source `n`'s list removed without answer (R100). -/
def flushList (n : SourceId) (s : State) : State :=
  (getAt s.lists n).foldl (fun s l => removeElement n l s) s

/-- FLUSH_SOURCE(n) across the blocks (R17, R44, R100, R176). -/
def flushSource (n : SourceId) (s : State) : State :=
  let s1 := terminateAll (fun r => r.counted && decide (r.source = n)) none .quarantined (flushQueue n s)
  let s2 := flushList n s1
  mapCount n (fun _ => 0)
    { s2 with backlog := s2.backlog.filter fun a => decide (a.source ≠ n) }

/-- SOFT_RESET up to its answer (R182). The Forward Queue's indications come before the Malformed Answer List's, those
in the list's order (assumption 13). -/
def softReset (s : State) : State :=
  let s1 := returnRqCredits .ordinary s.forwardQueue.length { s with forwardQueue := [], headPhase := .new }
  let s2 := freeQuarantined (terminateAll (fun _ => true) none .free s1)
  let s3 := clearLists (clearCounts { s2 with backlog := [] })
  let s4 := returnRsCredits s3.ingress.length { s3 with ingress := [] }
  let freed := s4.malformedList
  let s5 := { s4 with trafficQueue := [], malformedList := [], opState := .quiesced }
  freed.foldl (fun s a => returnRqCredits a.pool 1 s) s5

end Sys2Proof.Machine
end

