-- ==== Sys2Proof/Machine/Words.lean ====
section
/-! DEFINITION. What a READ of each word of the management space shows (R194 to R199). -/

namespace Sys2Proof.Machine

def identificationWord : Word := (Config.vendorCode ++ Config.partCode ++ Config.revision : BitVec 32)

/-- Command code, argument and outcome of the last command taken (R175, R196). -/
def State.commandWord (s : State) : Word :=
  (s.commandCode ++ s.commandArg ++ 0#15 ++ bit s.commandRefused : BitVec 32)

/-- R181, R196 -/
def State.opStateWord (s : State) : Word :=
  (0#15 ++ bit s.anyQuarantined ++ 0#1 ++ BitVec.ofNat 7 s.activeTags ++ 0#6 ++ s.opState.code : BitVec 32)

/-- R184, R196 -/
def State.farSourceWord (s : State) : Word := (0#27 ++ sourceBits s.farSource : BitVec 32)

/-- R52, R196 -/
def State.bankStatusWord (s : State) : Word :=
  (s.swapCount ++ 0#15 ++ BitVec.ofNat 1 s.activeBank.val : BitVec 32)

/-- R104, R196 -/
def State.holdStatusWord (s : State) : Word :=
  (0#5 ++ BitVec.ofNat 7 s.slotsInUse ++ BitVec.ofNat 10 s.storedWords
    ++ BitVec.ofNat 10 s.reservedWords : BitVec 32)

/-- A limit of 12 bits (R61, R62, R196). -/
def limitWord (l : BitVec 12) : Word := (0#20 ++ l : BitVec 32)

/-- The pending period when one is present, the one in force when none is (R107, R197). -/
def State.tickPeriodWord (s : State) : Word :=
  let (ps, rl) := s.tick.pendingPeriod.getD (s.tick.prescale, s.tick.reload)
  (rl ++ 0#14 ++ ps.code : BitVec 32)

/-- R108, R197 -/
def State.tickRunWord (s : State) : Word := (0#31 ++ bit s.tick.run : BitVec 32)

/-- R109, R197 -/
def State.tickCountWord (s : State) : Word :=
  (0#15 ++ bit s.tick.pendingPeriod.isSome ++ s.tick.count : BitVec 32)

/-- R138, R197 -/
def State.rqPortWord (s : State) : Word :=
  (0#5 ++ BitVec.ofNat 6 s.malformedList.length ++ BitVec.ofNat 6 s.trafficQueue.length
    ++ BitVec.ofNat 2 s.managementFree ++ BitVec.ofNat 6 s.ordinaryFree ++ BitVec.ofNat 6 s.rqCredits
    ++ bit (decide (s.rqLink = .up)) : BitVec 32)

/-- R138, R197 -/
def State.rsPortWord (s : State) : Word :=
  (0#15 ++ BitVec.ofNat 5 s.ingress.length ++ BitVec.ofNat 5 s.returnFree ++ BitVec.ofNat 6 s.rsCredits
    ++ bit (decide (s.rsLink = .up)) : BitVec 32)

/-- A word with bit `k` for the kind of code `k` (R198). -/
def kindBits (items : Table ErrorItem 20) (f : ErrorItem → Bool) : Word :=
  (List.finRange 20).foldl
    (fun w i => if f (getAt items i) then w ||| (1#32 <<< (i.val + 1)) else w) 0#32

/-- The ten severity codes from the kind of code `first + 1` on (R198). -/
def severityBits (items : Table ErrorItem 20) (second : Bool) : Word :=
  (List.finRange 10).foldl
    (fun w i =>
      let k : Fin 20 := Fin.ofNat 20 (i.val + if second then 10 else 0)
      w ||| (((getAt items k).severity.code.setWidth 32) <<< (2 * i.val))) 0#32

/-- R159, R198 -/
def State.errorControlWord (s : State) : Word :=
  (0#30 ++ bit s.err.fatalCondition ++ bit s.err.haltOnFatal : BitVec 32)

/-- R145, R198 -/
def State.recordStatusWord (s : State) : Word :=
  (0#23 ++ bit s.err.overflowed ++ 0#4 ++ BitVec.ofNat 4 s.err.records.length : BitVec 32)

/-- Record head word `i` of a record; an absent field reads 0 (R143, R198). -/
def Record.headWord (r : Record) (i : Fin 4) : Word :=
  match i with
  | 0 => (r.stamp ++ 0#7 ++ portCode r.port ++ r.severity.code ++ r.kind.code : BitVec 32)
  | 1 =>
    (0#2 ++ BitVec.ofNat 6 ((r.ident.pool.map Fin.val).getD 0) ++ r.ident.tag.getD 0#8 ++ 0#3
      ++ sourceBits (r.ident.source.getD 0) ++ 0#3 ++ bit r.ident.address.isSome
      ++ bit r.ident.kind.isSome ++ bit r.ident.pool.isSome ++ bit r.ident.tag.isSome
      ++ bit r.ident.source.isSome : BitVec 32)
  | 2 =>
    (0#16 ++ (r.ident.address.getD 0#40).extractLsb' 32 8 ++ 0#4
      ++ (r.ident.kind.map ReqKind.code).getD 0#4 : BitVec 32)
  | 3 => (r.ident.address.getD 0#40).extractLsb' 0 32

/-- Record head word `i`: 0 when the queue is empty (R159). -/
def State.recordHeadWord (s : State) (i : Fin 4) : Word :=
  match s.err.records with
  | [] => 0#32
  | r :: _ => r.headWord i

/-- R161, R197 -/
def State.alertConfigWord (s : State) : Word :=
  (0#13 ++ bit s.alert.advisory.enable ++ bit s.alert.nonfatal.enable ++ bit s.alert.fatal.enable ++ 0#7
    ++ bit s.alert.destValid ++ 0#3 ++ sourceBits s.alert.dest : BitVec 32)

/-- The byte of one class in the alert status word (R167, R197). -/
def AlertClass.statusByte (x : AlertClass) : BitVec 8 :=
  (bit x.slot.isSome ++ (x.latest.map ErrorKind.code).getD 0#5 ++ x.state.code : BitVec 8)

/-- R167, R197 -/
def State.alertStatusWord (s : State) : Word :=
  (0#8 ++ s.alert.advisory.statusByte ++ s.alert.nonfatal.statusByte ++ s.alert.fatal.statusByte
    : BitVec 32)

/-- R48, R196 -/
def SourceEntry.configWord (e : SourceEntry) : Word :=
  (0#14 ++ e.order.code ++ 0#3 ++ bit e.permission ++ 0#3 ++ e.quota ++ 0#1 ++ BitVec.ofNat 2 e.group.val
    ++ bit e.valid : BitVec 32)

/-- R51, R196 -/
def SourceEntry.countWord (e : SourceEntry) : Word := (0#27 ++ BitVec.ofNat 5 e.count : BitVec 32)

/-- Word `k` of a window: control, size, base, translated base (R55, R196). -/
def Window.word (w : Window) (k : Fin 4) : Word :=
  match k with
  | 0 =>
    (0#11 ++ bit w.absorb ++ 0#2 ++ BitVec.ofNat 2 w.cls.val ++ 0#4 ++ w.groups ++ 0#2 ++ w.access.code
      ++ 0#3 ++ bit w.valid : BitVec 32)
  | 1 => (0#26 ++ w.sizeExp : BitVec 32)
  | 2 => (0#4 ++ w.base : BitVec 32)
  | 3 => (0#4 ++ w.transBase : BitVec 32)

/-- The kind field of the Outstanding Table view: READ 1, CWRITE 3 (R199). -/
def EntryKind.viewCode : EntryKind → BitVec 2
  | .read => 1#2
  | .cwrite => 3#2

/-- The first word of a tag's view (R22, R199). -/
def TagState.firstWord : TagState → Word
  | .free => (0#30 ++ (TagState.code .free) : BitVec 32)
  | .active r =>
    (BitVec.ofNat 1 r.bank.val ++ BitVec.ofNat 4 r.window.val ++ BitVec.ofNat 7 r.received
      ++ bit r.delivered ++ bit r.absorbed ++ bit r.ordered ++ r.kind.viewCode ++ r.tag
      ++ sourceBits r.source ++ (TagState.active r).code : BitVec 32)
  | .quarantined q =>
    (0#1 ++ 0#4 ++ 0#7 ++ 0#1 ++ 0#1 ++ 0#1 ++ q.kind.viewCode ++ q.tag ++ sourceBits q.source
      ++ (TagState.quarantined q).code : BitVec 32)

/-- The second word of a tag's view (R22, R199). -/
def TagState.secondWord : TagState → Word
  | .free => (0#30 ++ (TagState.code .free) : BitVec 32)
  | .active r => (r.issueTick ++ 0#2 ++ r.limit ++ (TagState.active r).code : BitVec 32)
  | .quarantined q => (q.startTick ++ 0#2 ++ q.limit ++ (TagState.quarantined q).code : BitVec 32)

/-- The contents of a word as they stand (R173). -/
def State.readWord (s : State) : MgmtWord → Word
  | .identification => identificationWord
  | .command => s.commandWord
  | .opState => s.opStateWord
  | .farSource => s.farSourceWord
  | .bankStatus => s.bankStatusWord
  | .holdStatus => s.holdStatusWord
  | .quarantineLimit => limitWord s.quarantineLimit
  | .tickPeriod => s.tickPeriodWord
  | .tickRun => s.tickRunWord
  | .tickCount => s.tickCountWord
  | .rqPort => s.rqPortWord
  | .rsPort => s.rsPortWord
  | .errorStatus => kindBits s.err.items ErrorItem.status
  | .errorMask => kindBits s.err.items ErrorItem.mask
  | .errorSeverity second => severityBits s.err.items second
  | .errorControl => s.errorControlWord
  | .recordStatus => s.recordStatusWord
  | .recordHead i => s.recordHeadWord i
  | .alertConfig => s.alertConfigWord
  | .alertStatus => s.alertStatusWord
  | .timeoutClass c => limitWord (getAt s.timeoutLimits c)
  | .sourceConfig n => (getAt s.sources n).configWord
  | .sourceCount n => (getAt s.sources n).countWord
  | .staging w k => (getAt (getAt s.banks s.stagingBank) w).word k
  | .active w k => (getAt s.activeWindows w).word k
  | .tagFirst t => (getAt s.tags t).firstWord
  | .tagSecond t => (getAt s.tags t).secondWord

end Sys2Proof.Machine
end

