-- ==== Sys2Proof/Machine/Manage.lean ====
section
/-! DEFINITION. The Management Agent's taking step: the checks, the answer, and a command's or a write's handling (R170 to R175). -/

namespace Sys2Proof.Machine

/-- What the agent answers (R171). -/
inductive Answer where
  | data (w : Word)
  | done
  | fail (status : Status)
  deriving DecidableEq, Repr

/-- The body of an answer packet (R171). -/
def Answer.body : Answer → Body
  | .data w => .data { words := [w], last := true, poison := false }
  | .done => .done
  | .fail st => .fail st

/-- The first check that fails: permission, length, offset (R172). -/
def State.checkFailure (s : State) (r : Request) : Option Status :=
  let e := getAt s.sources r.source
  if !(e.valid && e.permission) then some .denied
  else if r.length ≠ 1 then some .malformed
  else if r.word.isNone then some .unsupported
  else none

/-- A refusal: MGMT_REFUSED with port none, and the answer FAIL (R172, R174). -/
def refuse (r : Request) (st : Status) (s : State) : State × Answer :=
  (report .mgmtRefused none r.ident s, .fail st)

/-- A write that passed the checks: refused when poisoned or when its own rule refuses it (R174). -/
def writeWith (apply : Request → State → Option State) (r : Request) (s : State) : State × Answer :=
  if r.poison then refuse r .denied s
  else
    match apply r s with
    | some s' => (s', .done)
    | none => refuse r .denied s

/-- The answer placed in an empty slot; a posted WRITE has none (R170, R171). -/
def placeManagementAnswer (r : Request) (a : Answer) (s : State) : State :=
  if r.kind = .write then s
  else { s with mgmtSlots := s.mgmtSlots ++ [{ dest := r.source, tag := r.tag, body := a.body }] }

/-- The request leaves the Management Queue and its slot's credit is returned (R170). -/
def finishRequest (s : State) : State :=
  returnRqCredits .management 1 { s with mgmtQueue := s.mgmtQueue.tail }

/-- Whether the oldest request can be taken: a READ or CWRITE needs an empty slot (R170). -/
def State.canTake (s : State) (r : Request) : Bool :=
  decide (r.kind = .write) || decide (s.mgmtSlots.length < Config.responseSlots)

/-- The request carried out: refused by the first check that fails, else handled as its row states (R172). -/
def carryOut (handle : Request → State → State × Answer) (r : Request) (s : State) : State × Answer :=
  match s.checkFailure r with
  | some st => refuse r st s
  | none => handle r s

/-- The taking step of a row: the oldest request, if it is of the row and can be taken, is carried out
whole (R170). A waiting head that the step sets free is issued in it (R37). The credits the row's effect frees are
returned first, then the request's own, then an issued head's (assumption 13). -/
def takeRequest (row : MgmtRow) (handle : Request → State → State × Answer) (s : State) : State :=
  match s.mgmtQueue with
  | [] => s
  | r :: _ =>
    if decide (r.row = row) && s.canTake r then
      let (s1, a) := carryOut handle r s
      issueAfter s (finishRequest (placeManagementAnswer r a s1))
    else s

/-! ### Commands (R175) -/

/-- What the command word shows after a command was taken (R175). -/
def showCommand (r : Request) (refused : Bool) (s : State) : State :=
  { s with
    commandCode := commandCodeOf r.value
    commandArg := commandArgOf r.value
    commandRefused := refused }

/-- A command that is carried out or refused; either way the command word shows it (R175). -/
def commandWith (effect : BitVec 8 → State → Option State) (r : Request) (s : State) : State × Answer :=
  if r.poison then refuse r .denied s
  else
    match effect (commandArgOf r.value) s with
    | some s' => (showCommand r false s', .done)
    | none => refuse r .denied (showCommand r true s)

/-! ### Every other request -/

/-- A READ is answered with the word as it stands; a write to the command word names no command; any
other write is of a read-only word (R173, R174, R175). -/
def handleOther (r : Request) (s : State) : State × Answer :=
  match r.kind, r.word with
  | .read, some w => (s, .data (s.readWord w))
  | _, some .command => commandWith (fun _ _ => none) r s
  | _, _ => refuse r .denied s

end Sys2Proof.Machine
end

