-- ==== Sys2Proof/Machine/Commands.lean ====
section
/-! DEFINITION. The meanings of HALT and of the ten commands of the command word (R175, R180). -/

namespace Sys2Proof.Machine

open Host (Outcome)

/-- The Management Agent takes the waiting halt requests: the first moves the state to HALTED, the others
find it HALTED (R153, R180; assumption 10). -/
def takeHalt (s : State) : State :=
  if s.haltRequested then
    let s1 := { s with haltRequested := false }
    if s.opState = .halted then s1 else haltTeardown s1
  else s

/-- HALT (R180). -/
def execHalt (s : State) : Outcome State Fault Refusal := .next (takeHalt s)

/-- The banks' roles exchanged, the swap count raised (R57). -/
def swapRoles (s : State) : State :=
  { s with activeBank := s.stagingBank, swapCount := s.swapCount + 1#16 }

/-- SWAP_BANKS (R57). -/
def execSwapBanks (s : State) : Outcome State Fault Refusal :=
  .next (takeRequest .swapBanks (commandWith fun _ s => some (swapRoles s)) s)

/-- The ACTIVE bank copied over the STAGING bank (R58). -/
def copyBank (s : State) : State :=
  { s with banks := putAt s.banks s.stagingBank s.activeWindows }

/-- COPY_ACTIVE_TO_STAGING (R58). -/
def execCopyActiveToStaging (s : State) : Outcome State Fault Refusal :=
  .next (takeRequest .copyActiveToStaging (commandWith fun _ s => some (copyBank s)) s)

/-- QUIESCE by the operating state (R178). -/
def quiesceEffect (s : State) : Option State :=
  match s.opState with
  | .run => some { s with opState := if s.activeTags = 0 then .quiesced else .quiescing }
  | .quiescing => some s
  | .quiesced => some s
  | .halted => none

/-- QUIESCE (R178). -/
def execQuiesce (s : State) : Outcome State Fault Refusal :=
  .next (takeRequest .quiesce (commandWith fun _ s => quiesceEffect s) s)

/-- The state becomes RUN; a CLASSIFIED head that finds the RS port DOWN is handled at once (R179, R42). A waiting NEW
head is left to the CLASSIFICATION step that follows (assumption 22). A discarded head's credit is returned before the
request's own (assumption 13). -/
def resumeRun (s : State) : State := linkDownClassified { s with opState := .run }

/-- RESUME by the operating state and, in HALTED, the fatal condition (R154, R179). -/
def resumeEffect (s : State) : Option State :=
  match s.opState with
  | .run => some s
  | .quiescing => some (resumeRun s)
  | .quiesced => some (resumeRun s)
  | .halted => if s.err.fatalCondition then none else some (resumeRun s)

/-- RESUME (R179). -/
def execResume (s : State) : Outcome State Fault Refusal :=
  .next (takeRequest .resume (commandWith fun _ s => resumeEffect s) s)

/-- FLUSH_SOURCE by its argument; above 31 it is refused (R175, R176). -/
def flushEffect (arg : BitVec 8) (s : State) : Option State :=
  if h : arg.toNat < 32 then some (flushSource ⟨arg.toNat, h⟩ s) else none

/-- FLUSH_SOURCE (R176). -/
def execFlushSource (s : State) : Outcome State Fault Refusal :=
  .next (takeRequest .flushSource (commandWith flushEffect) s)

/-- SOFT_RESET (R182). -/
def execSoftReset (s : State) : Outcome State Fault Refusal :=
  .next (takeRequest .softReset (commandWith fun _ s => some (softReset s)) s)

/-- ALERT_ACK by its class; an argument that names none is refused (R164). -/
def alertAckEffect (arg : BitVec 8) (s : State) : Option State :=
  (classOfArg arg).map fun c =>
    { s with alert := s.alert.ack c s.err.records.length s.err.overflowed }

/-- ALERT_ACK (R164). -/
def execAlertAck (s : State) : Outcome State Fault Refusal :=
  .next (takeRequest .alertAck (commandWith alertAckEffect) s)

/-- POP_RECORD; refused when the queue is empty (R147). -/
def popRecordEffect (s : State) : Option State :=
  match s.err.records with
  | [] => none
  | _ :: rest => some { s with err := { s.err with records := rest } }

/-- POP_RECORD (R147). -/
def execPopRecord (s : State) : Outcome State Fault Refusal :=
  .next (takeRequest .popRecord (commandWith fun _ s => popRecordEffect s) s)

/-- Every record removed and the overflowed flag cleared (R148). -/
def clearRecordsEffect (s : State) : State :=
  { s with err := { s.err with records := [], overflowed := false } }

/-- CLEAR_RECORDS (R148). -/
def execClearRecords (s : State) : Outcome State Fault Refusal :=
  .next (takeRequest .clearRecords (commandWith fun _ s => some (clearRecordsEffect s)) s)

/-- The status of one position cleared. -/
def ErrorUnit.clearAt (e : ErrorUnit) (i : Fin 20) : ErrorUnit :=
  { e with items := putAt e.items i { getAt e.items i with status := false } }

/-- The status of every kind cleared. -/
def ErrorUnit.clearAll (e : ErrorUnit) : ErrorUnit := (List.finRange 20).foldl ErrorUnit.clearAt e

/-- CLEAR_STATUS by its argument: 0 all kinds, 1 to 20 one, above it is refused (R150). -/
def clearStatusEffect (arg : BitVec 8) (s : State) : Option State :=
  if arg.toNat = 0 then some { s with err := s.err.clearAll }
  else if h : arg.toNat - 1 < 20 then some { s with err := s.err.clearAt ⟨arg.toNat - 1, h⟩ }
  else none

/-- CLEAR_STATUS (R150). -/
def execClearStatus (s : State) : Outcome State Fault Refusal :=
  .next (takeRequest .clearStatus (commandWith clearStatusEffect) s)

end Sys2Proof.Machine
end

