-- ==== Sys2Proof/Machine/Flow.lean ====
section
/-! DEFINITION. The meanings of the steps of Dispatch, the Response Matcher, return ordering, the Answer Backlog and the Tick Generator. -/

namespace Sys2Proof.Machine

open Host (Outcome)

/-! ### Dispatch -/

/-- Dispatch takes up the head by its phase, its mark and the operating state (R25).
DESIGN CHOICE, safe (assumption 21): R25 names no step that moves a marked head to ANSWERING HALTED; this one does, in
every operating state, and HALT leaves a marked NEW head NEW. -/
def takeUpHead (s : State) : State :=
  match s.forwardQueue with
  | [] => s
  | w :: _ =>
    match s.headPhase with
    | .answering _ => s
    | .classified _ => if w.mark then setPhase (.answering .halted) s else linkDownClassified s
    | .new =>
      if w.mark then setPhase (.answering .halted) s
      else if s.opState = .run then classifyHead w.req s
      else s

/-- CLASSIFICATION (R26). -/
def execClassification (s : State) : Outcome State Fault Refusal := .next (takeUpHead s)

/-- ISSUE: a NON-POSTED or ABSORBED head whose resources are all present (R39). -/
def execIssue (s : State) : Outcome State Fault Refusal :=
  .next <|
    match s.issuable with
    | some (req, c, g) => if c.cls = .plainPosted then s else issueWith req c s g
    | none => s

/-- ISSUE_PLAIN_POSTED (R41). -/
def execIssuePlainPosted (s : State) : Outcome State Fault Refusal :=
  .next <|
    match s.issuable with
    | some (req, c, g) => if c.cls = .plainPosted then issueWith req c s g else s
    | none => s

/-- ANSWER_PLACEMENT (R35). -/
def execAnswerPlacement (s : State) : Outcome State Fault Refusal := .next (placeDirect .dispatch s)

/-! ### Answers that wait -/

/-- BACKLOG_ENTRY (R11). -/
def execBacklogEntry (s : State) : Outcome State Fault Refusal :=
  .next (issueAfter s (placeDirect .backlog s))

/-- MALFORMED_ANSWER_ENTRY (R127). -/
def execMalformedAnswerEntry (s : State) : Outcome State Fault Refusal :=
  .next (placeDirect .malformedList s)

/-! ### The Response Matcher and return ordering -/

/-- The Matcher's own step: a packet that needs room waits while the Traffic Queue is full; the FAIL of a
head that a mismatch fails enters in the same step where there is room (R65, R66, R72, R131). -/
def matcherStep (s : State) : State :=
  if s.matcherNeedsRoom && !s.trafficHasRoom then s
  else if s.matcherMismatches then distribute s (matcherTake s)
  else matcherTake s

/-- MATCHER_TAKE (R65). -/
def execMatcherTake (s : State) : Outcome State Fault Refusal := .next (issueAfter s (matcherStep s))

/-- DRAIN_STEP (R94). -/
def execDrainStep (n : SourceId) (s : State) : Outcome State Fault Refusal :=
  .next (issueAfter s (placeDirect (.drain n) s))

/-! ### The Tick Generator -/

/-- TICK_EVENT: the underflow of the down counter, which needs the run flag (R106, R109, R110). -/
def execTickEvent (s : State) : Outcome State Fault Refusal :=
  .next (if s.tick.run = true ∧ s.tick.downCounter = 0#16 then issueAfter s (tickEvent s) else s)

/-- EXPIRY of one tag (R111). -/
def execExpiry (t : PoolTag) (s : State) : Outcome State Fault Refusal :=
  .next (issueAfter s (distribute s (expireTag t s)))

/-- LAPSE of one tag (R112). -/
def execLapse (t : PoolTag) (s : State) : Outcome State Fault Refusal :=
  .next (issueAfter s (lapseTag t s))

/-- PRESCALED_STEP (R106). -/
def execPrescaledStep (s : State) : Outcome State Fault Refusal :=
  .next (if s.tick.run then issueAfter s (prescaledStep s) else s)

end Sys2Proof.Machine
end

