-- ==== Sys2Proof/Machine/Link.lean ====
section
/-! DEFINITION. The meanings of device reset, of the link events and of what arrives and leaves on the two ports (chapter 7). -/

namespace Sys2Proof.Machine

open Host (Outcome)

/-- Every block at its device-reset value; what has left the part and what waits in the queue are not the
part's (R183; assumption 6). -/
def deviceReset (strap : SourceId) (s : State) : State :=
  { State.afterReset strap with rqWire := s.rqWire, rsWire := s.rsWire, pending := s.pending }

/-- DEVICE_RESET (R183). -/
def execDeviceReset (strap : SourceId) (s : State) : Outcome State Fault Refusal :=
  .next (deviceReset strap s)

/-- The RQ port comes UP with no transmit credits and returns a credit for every free slot (R135), the
ORDINARY ones first (assumption 13). -/
def rqUp (s : State) : State :=
  let s1 := { s with rqLink := .up, rqCredits := 0 }
  returnRqCredits .management s1.managementFree (returnRqCredits .ordinary s1.ordinaryFree s1)

/-- RQ_LINK_UP: no effect on a port that is UP (R117, R135). -/
def execRqLinkUp (s : State) : Outcome State Fault Refusal :=
  .next (if s.rqLink = .up then s else rqUp s)

/-- RQ_LINK_DOWN: no effect on a port that is DOWN (R117, R134). -/
def execRqLinkDown (s : State) : Outcome State Fault Refusal :=
  .next (if s.rqLink = .up then rqDown s else s)

/-- The RS port comes UP with no transmit credits and returns a credit for every free slot (R137). -/
def rsUp (s : State) : State :=
  let s1 := { s with rsLink := .up, rsCredits := 0 }
  returnRsCredits s1.returnFree s1

/-- RS_LINK_UP: no effect on a port that is UP (R117, R137). -/
def execRsLinkUp (s : State) : Outcome State Fault Refusal :=
  .next (if s.rsLink = .up then s else rsUp s)

/-- RS_LINK_DOWN: no effect on a port that is DOWN (R117, R136). -/
def execRsLinkDown (s : State) : Outcome State Fault Refusal :=
  .next (if s.rsLink = .up then rsDown s else s)

/-- A framing failure on the RQ port: as LINK DOWN, and the link is to be restarted (R118). -/
def rqFramingFailure (s : State) : State := putRq .restart (rqDown s)

/-- A framing failure on the RS port (R118). -/
def rsFramingFailure (s : State) : State := putRs .restart (rsDown s)

/-! ### Requester-side ingress (R124 to R128) -/

/-- A packet that fails the kind check; its header word, if it holds one, gives source ID and tag (R125, R187). -/
def failKind (p : PoolCode) (words : List Word) (s : State) : State :=
  let id : Ident := match words with
    | [] => Ident.none
    | w0 :: _ => { Ident.none with source := some (headerSource w0), tag := some (headerTag w0) }
  report .malformedRequest (some .rq) id (returnRqCredits p 1 s)

/-- Whether a request is malformed; `length` is the length field as received (R126). -/
def Request.malformed (r : Request) (p : PoolCode) : Bool :=
  decide (r.length = 0) || decide (64 < r.length)
    || (decide (r.kind ≠ .read) && decide (r.payload.length ≠ r.length))
    || (decide (r.kind = .read) && !r.payload.isEmpty)
    || decide (r.address.toNat % 4 ≠ 0)
    || (decide (p = .ordinary) && inAperture r.address)
    || (decide (p = .management) && !inAperture r.address)

/-- The answer to a malformed READ or CWRITE, and the slot it frees or keeps (R127). -/
def answerMalformed (r : Request) (p : PoolCode) (s : State) : State :=
  if s.malformedList.isEmpty && s.trafficHasRoom then
    returnRqCredits p 1 (pushTraffic { dest := r.source, tag := r.tag, body := .fail .malformed } s)
  else { s with malformedList := s.malformedList ++ [{ dest := r.source, tag := r.tag, pool := p }] }

/-- A malformed request (R127). -/
def takeMalformed (r : Request) (p : PoolCode) (s : State) : State :=
  let s1 := report .malformedRequest (some .rq) r.ident s
  if r.kind = .write then returnRqCredits p 1 s1 else answerMalformed r p s1

/-- A well-formed ORDINARY request: in HALTED a WRITE is discarded with DISCARDED_WRITE and any other joins
with its halt mark set (R43, R128). -/
def joinForward (r : Request) (s : State) : State :=
  if s.opState = .halted ∧ r.kind = .write then
    returnRqCredits .ordinary 1 (report .discardedWrite (some .rq) r.ident s)
  else
    { s with
      forwardQueue := s.forwardQueue ++ [{ req := r, mark := decide (s.opState = .halted) }] }

/-- A well-formed request sorted by the pool it travelled in (R128). -/
def sortRequest (r : Request) (p : PoolCode) (s : State) : State :=
  if p = .management then { s with mgmtQueue := s.mgmtQueue ++ [r] } else joinForward r s

/-- The kind check, the format checks and the sorting (R125 to R128). -/
def takeRqPacket (p : PoolCode) (words : List Word) (s : State) : State :=
  match words with
  | w0 :: w1 :: w2 :: payload =>
    match ReqKind.ofCode (headerKind w0) with
    | some k =>
      let r := parseRequest k w0 w1 w2 payload
      if r.malformed p then takeMalformed r p s else sortRequest r p s
    | none => failKind p words s
  | _ => failKind p words s

/-- Free slots of a pool of the RQ port (R121). -/
def State.rqFree (s : State) : PoolCode → Nat
  | .ordinary => s.ordinaryFree
  | .management => s.managementFree
  | .ret => 0

/-- The credit check and the check word of a packet whose framing is valid (R120, R121). -/
def admitRq (p : PoolCode) (words : List Word) (check : BitVec 16) (s : State) : State :=
  if s.rqFree p = 0 then report .creditOverrunRq (some .rq) Ident.none s
  else if checkWord words = check then takeRqPacket p words s
  else report .integrityRq (some .rq) Ident.none (returnRqCredits p 1 s)

/-- RQ_ARRIVAL: a packet is received only while the port is UP (R117, R124). -/
def execRqArrival (framing : BitVec 8) (words : List Word) (check : BitVec 16) (s : State) :
    Outcome State Fault Refusal :=
  .next <|
    if s.rqLink = .down then s
    else
      match framedPool framing with
      | some .ordinary => admitRq .ordinary words check s
      | some .management => admitRq .management words check s
      | _ => rqFramingFailure s

/-! ### Responder-side ingress (R129) -/

/-- A malformed response: its tag is the pool tag when 63 or below (R129, R187). -/
def failFormat (words : List Word) (s : State) : State :=
  let pool : Option PoolTag := match words with
    | [] => none
    | w0 :: _ => if h : (headerTag w0).toNat < 64 then some ⟨(headerTag w0).toNat, h⟩ else none
  report .malformedResponse (some .rs) { Ident.none with pool := pool } (returnRsCredits 1 s)

/-- Whether a response with header word `w0` and the data words `data` is malformed (R129). -/
def responseMalformed (k : RespKind) (w0 : Word) (data : List Word) (far : SourceId) : Bool :=
  (match k with
    | .data => decide (headerCount w0 = 0) || decide (16 < headerCount w0)
    | .done => decide (headerCount w0 ≠ 0)
    | .fail => decide (headerCount w0 ≠ 0))
    || decide (data.length ≠ headerCount w0)
    || decide (headerSource w0 ≠ far)

/-- The format checks and the joining of the ingress buffer (R129). -/
def takeRsPacket (words : List Word) (s : State) : State :=
  match words with
  | [] => failFormat words s
  | w0 :: data =>
    match RespKind.ofCode (headerKind w0) with
    | none => failFormat words s
    | some k =>
      if responseMalformed k w0 data s.farSource then failFormat words s
      else { s with ingress := s.ingress ++ [parseResponse k w0 data] }

/-- The credit check and the check word of a packet whose framing is valid (R120, R121). -/
def admitRs (words : List Word) (check : BitVec 16) (s : State) : State :=
  if s.returnFree = 0 then report .creditOverrunRs (some .rs) Ident.none s
  else if checkWord words = check then takeRsPacket words s
  else report .integrityRs (some .rs) Ident.none (returnRsCredits 1 s)

/-- RS_ARRIVAL (R117, R129). -/
def execRsArrival (framing : BitVec 8) (words : List Word) (check : BitVec 16) (s : State) :
    Outcome State Fault Refusal :=
  .next <|
    if s.rsLink = .down then s
    else
      match framedPool framing with
      | some .ret => admitRs words check s
      | _ => rsFramingFailure s

/-! ### Credits and transmission -/

/-- A transmit credit count raised by one, saturating at 63 (R122). -/
def moreCredits (n : Nat) : Nat := if n < Config.maxCredits then n + 1 else n

/-- CREDIT_RETURN_INDICATION (R122, R123). A credit that lets a waiting head go issues it (R37). -/
def execCreditReturnIndication (port : PortId) (byte : BitVec 8) (s : State) :
    Outcome State Fault Refusal :=
  .next <|
    match port with
    | .rq =>
      if s.rqLink = .down then s
      else if framedPool byte = some .ret then { s with rqCredits := moreCredits s.rqCredits }
      else rqFramingFailure s
    | .rs =>
      if s.rsLink = .down then s
      else if framedPool byte = some .ordinary then
        issueAfter s { s with rsCredits := moreCredits s.rsCredits }
      else rsFramingFailure s

/-- The class whose ALERT leaves first: FATAL, then NONFATAL, then ADVISORY (R132). -/
def AlertUnit.nextAlert (a : AlertUnit) : Option (Severity × Alert) :=
  match a.fatal.slot, a.nonfatal.slot, a.advisory.slot with
  | some x, _, _ => some (.fatal, x)
  | none, some x, _ => some (.nonfatal, x)
  | none, none, some x => some (.advisory, x)
  | none, none, none => none

/-- The slot of a class emptied by its transmission; the class's state does not change (R163). -/
def AlertUnit.sent (a : AlertUnit) (c : Severity) : AlertUnit :=
  a.setCls c { a.cls c with slot := none }

/-- A packet leaves on the RQ port with one credit and a check word computed afresh (R119, R132). -/
def sendRq (words : List Word) (s : State) : State :=
  putRq (sentPacket .ret words) { s with rqCredits := s.rqCredits - 1 }

/-- The head of the Traffic Queue is sent, and the place it left goes to a waiting producer (R131, R132), whose own
indication follows the packet (assumption 13). -/
def transmitTraffic (s : State) : State :=
  match s.trafficQueue with
  | [] => s
  | r :: rest =>
    let s1 := sendRq (packResponse r) { s with trafficQueue := rest }
    if s.trafficHasRoom then s1 else givePlace s1

/-- The arbiter's choice: an alert slot, a Management Response Slot, the Traffic Queue (R132). -/
def transmit (s : State) : State :=
  match s.alert.nextAlert with
  | some (c, a) => sendRq (packAlert a) { s with alert := s.alert.sent c }
  | none =>
    match s.mgmtSlots with
    | r :: rest => sendRq (packResponse r) { s with mgmtSlots := rest }
    | [] => transmitTraffic s

/-- TRANSMIT_STEP: taken while the RQ port is UP and holds a credit (R132). -/
def execTransmitStep (s : State) : Outcome State Fault Refusal :=
  .next (if s.rqLink = .up ∧ 0 < s.rqCredits then issueAfter s (transmit s) else s)

end Sys2Proof.Machine
end

