-- ==== Sys2Proof/Machine/Registers.lean ====
section
/-! DEFINITION. The meanings of the writes of the management space: each word's own rule accepts or refuses (R174). -/

namespace Sys2Proof.Machine

open Host (Outcome)

/-- All five configuration fields replaced when quota and order mode are permitted; the count stays (R48). -/
def SourceEntry.configure (e : SourceEntry) (v : Word) : Option SourceEntry :=
  match OrderMode.ofCode (v.extractLsb' 16 2) with
  | none => none
  | some mode =>
    if (v.extractLsb' 4 5).toNat ≤ 16 then
      some { valid := v.getLsbD 0, group := (v.extractLsb' 1 2).toFin, quota := v.extractLsb' 4 5,
             permission := v.getLsbD 12, order := mode, count := e.count }
    else none

/-- A write to a source's configuration word (R48). -/
def writeSourceConfig (r : Request) (s : State) : Option State :=
  match r.word with
  | some (.sourceConfig n) =>
    ((getAt s.sources n).configure r.value).map fun e => { s with sources := putAt s.sources n e }
  | _ => none

/-- SOURCE_CONFIGURATION_WRITE (R48). -/
def execSourceConfigurationWrite (s : State) : Outcome State Fault Refusal :=
  .next (takeRequest .sourceConfiguration (writeWith writeSourceConfig) s)

/-- The window as it would stand after a write of word `k`; absent when the word itself gives a size or an
access that is not permitted (R55 conditions 1 and 2). -/
def Window.withWord (w : Window) (k : Fin 4) (v : Word) : Option Window :=
  match k with
  | 0 =>
    (Access.ofCode (v.extractLsb' 4 2)).map fun a =>
      { w with valid := v.getLsbD 0, access := a, groups := v.extractLsb' 8 4,
               cls := (v.extractLsb' 16 2).toFin, absorb := v.getLsbD 20 }
  | 1 =>
    let e := v.extractLsb' 0 6
    if 12 ≤ e.toNat ∧ e.toNat ≤ 40 then some { w with sizeExp := e } else none
  | 2 => some { w with base := v.extractLsb' 0 28 }
  | 3 => some { w with transBase := v.extractLsb' 0 28 }

/-- Both bases are multiples of the window's size (R53, R55 conditions 3 and 4). -/
def Window.aligned (w : Window) : Bool :=
  decide ((baseAddress w.base).toNat % w.size = 0) && decide ((baseAddress w.transBase).toNat % w.size = 0)

/-- A write to a word of the STAGING view (R55). -/
def writeStaging (r : Request) (s : State) : Option State :=
  match r.word with
  | some (.staging i k) =>
    let bank := getAt s.banks s.stagingBank
    match (getAt bank i).withWord k r.value with
    | some w =>
      if w.aligned then some { s with banks := putAt s.banks s.stagingBank (putAt bank i w) } else none
    | none => none
  | _ => none

/-- STAGING_WINDOW_WRITE (R55). -/
def execStagingWindowWrite (s : State) : Outcome State Fault Refusal :=
  .next (takeRequest .stagingWindow (writeWith writeStaging) s)

/-- The limit field of a limit word (R196). -/
def limitOf (v : Word) : BitVec 12 := v.extractLsb' 0 12

/-- A write of a class limit from 1 to 4095 (R61). -/
def writeTimeoutClass (r : Request) (s : State) : Option State :=
  match r.word with
  | some (.timeoutClass c) =>
    if limitOf r.value = 0#12 then none
    else some { s with timeoutLimits := putAt s.timeoutLimits c (limitOf r.value) }
  | _ => none

/-- TIMEOUT_CLASS_WRITE (R61). -/
def execTimeoutClassWrite (s : State) : Outcome State Fault Refusal :=
  .next (takeRequest .timeoutClass (writeWith writeTimeoutClass) s)

/-- A write of the quarantine limit from 1 to 4095 (R62). -/
def writeQuarantineLimit (r : Request) (s : State) : Option State :=
  if limitOf r.value = 0#12 then none else some { s with quarantineLimit := limitOf r.value }

/-- QUARANTINE_LIMIT_WRITE (R62). -/
def execQuarantineLimitWrite (s : State) : Outcome State Fault Refusal :=
  .next (takeRequest .quarantineLimit (writeWith writeQuarantineLimit) s)

/-- A write of the tick period: prescale and reload become pending; reload 0 is refused (R107). -/
def writeTickPeriod (r : Request) (s : State) : Option State :=
  let reload := r.value.extractLsb' 16 16
  if reload = 0#16 then none
  else
    some { s with
      tick := { s.tick with pendingPeriod := some (Prescale.ofCode (r.value.extractLsb' 0 2), reload) } }

/-- TICK_PERIOD_WRITE (R107). -/
def execTickPeriodWrite (s : State) : Outcome State Fault Refusal :=
  .next (takeRequest .tickPeriod (writeWith writeTickPeriod) s)

/-- A write of the run flag (R108). -/
def writeTickRun (r : Request) (s : State) : Option State :=
  some { s with tick := { s.tick with run := r.value.getLsbD 0 } }

/-- TICK_RUN_WRITE (R108). -/
def execTickRunWrite (s : State) : Outcome State Fault Refusal :=
  .next (takeRequest .tickRun (writeWith writeTickRun) s)

/-- The mask of position `i` set from bit `i + 1` (R198). -/
def ErrorUnit.maskFrom (v : Word) (e : ErrorUnit) (i : Fin 20) : ErrorUnit :=
  { e with items := putAt e.items i { getAt e.items i with mask := v.getLsbD (i.val + 1) } }

/-- A write of the twenty masks (R151). -/
def writeErrorMask (r : Request) (s : State) : Option State :=
  some { s with err := (List.finRange 20).foldl (ErrorUnit.maskFrom r.value) s.err }

/-- ERROR_MASK_WRITE (R151). -/
def execErrorMaskWrite (s : State) : Outcome State Fault Refusal :=
  .next (takeRequest .errorMask (writeWith writeErrorMask) s)

/-- Severity code `i` of a severity word (R198). -/
def severityCode (v : Word) (i : Fin 10) : BitVec 2 := v.extractLsb' (2 * i.val) 2

/-- The kind position that code `i` of the first or second word is for (R198). -/
def severityIndex (second : Bool) (i : Fin 10) : Fin 20 := Fin.ofNat 20 (i.val + if second then 10 else 0)

/-- The severity of one position set from its code. -/
def ErrorUnit.severityFrom (second : Bool) (v : Word) (e : ErrorUnit) (i : Fin 10) : ErrorUnit :=
  let k := severityIndex second i
  { e with
    items := putAt e.items k
      { getAt e.items k with
        severity := (Severity.ofCode (severityCode v i)).getD (getAt e.items k).severity } }

/-- A write of ten severities, refused when any code names none (R152). -/
def writeErrorSeverity (r : Request) (s : State) : Option State :=
  match r.word with
  | some (.errorSeverity second) =>
    if (List.finRange 10).all fun i => (Severity.ofCode (severityCode r.value i)).isSome then
      some { s with err := (List.finRange 10).foldl (ErrorUnit.severityFrom second r.value) s.err }
    else none
  | _ => none

/-- ERROR_SEVERITY_WRITE (R152). -/
def execErrorSeverityWrite (s : State) : Outcome State Fault Refusal :=
  .next (takeRequest .errorSeverity (writeWith writeErrorSeverity) s)

/-- A write of halt-on-fatal (R153). -/
def writeErrorControl (r : Request) (s : State) : Option State :=
  some { s with err := { s.err with haltOnFatal := r.value.getLsbD 0 } }

/-- ERROR_CONTROL_WRITE (R153). -/
def execErrorControlWrite (s : State) : Outcome State Fault Refusal :=
  .next (takeRequest .errorControl (writeWith writeErrorControl) s)

/-- A write of the alert configuration word (R161, R197). -/
def writeAlertConfig (r : Request) (s : State) : Option State :=
  let v := r.value
  some { s with
    alert := s.alert.configure (v.extractLsb' 0 5).toFin (v.getLsbD 8) (v.getLsbD 16) (v.getLsbD 17)
      (v.getLsbD 18) }

/-- ALERT_CONFIGURATION_WRITE (R161). -/
def execAlertConfigurationWrite (s : State) : Outcome State Fault Refusal :=
  .next (takeRequest .alertConfiguration (writeWith writeAlertConfig) s)

/-- A write of the far source ID, accepted in QUIESCED with no tag QUARANTINED (R184). -/
def writeFarSource (r : Request) (s : State) : Option State :=
  if s.opState = .quiesced ∧ s.anyQuarantined = false then
    some { s with farSource := (r.value.extractLsb' 0 5).toFin }
  else none

/-- FAR_SOURCE_ID_WRITE (R184). -/
def execFarSourceIdWrite (s : State) : Outcome State Fault Refusal :=
  .next (takeRequest .farSource (writeWith writeFarSource) s)

/-- MANAGEMENT_WRITE: every request no other row takes, every READ among them (R173, R174). -/
def execManagementWrite (s : State) : Outcome State Fault Refusal :=
  .next (takeRequest .other handleOther s)

end Sys2Proof.Machine
end

