-- ==== Sys2Proof/Machine/Dispatch.lean ====
section
/-! DEFINITION. One arm for each command. -/

namespace Sys2Proof.Machine

def exec (i : Instr) (s : State) : Host.Outcome State Fault Refusal :=
  match i with
  | .deviceReset strap => Sys2Proof.Machine.execDeviceReset strap s
  | .rqLinkUp => Sys2Proof.Machine.execRqLinkUp s
  | .rqLinkDown => Sys2Proof.Machine.execRqLinkDown s
  | .rsLinkUp => Sys2Proof.Machine.execRsLinkUp s
  | .rsLinkDown => Sys2Proof.Machine.execRsLinkDown s
  | .rqArrival framing words check => Sys2Proof.Machine.execRqArrival framing words check s
  | .rsArrival framing words check => Sys2Proof.Machine.execRsArrival framing words check s
  | .creditReturnIndication port byte => Sys2Proof.Machine.execCreditReturnIndication port byte s
  | .tickEvent => Sys2Proof.Machine.execTickEvent s
  | .expiry tag => Sys2Proof.Machine.execExpiry tag s
  | .lapse tag => Sys2Proof.Machine.execLapse tag s
  | .classification => Sys2Proof.Machine.execClassification s
  | .issue => Sys2Proof.Machine.execIssue s
  | .issuePlainPosted => Sys2Proof.Machine.execIssuePlainPosted s
  | .answerPlacement => Sys2Proof.Machine.execAnswerPlacement s
  | .backlogEntry => Sys2Proof.Machine.execBacklogEntry s
  | .malformedAnswerEntry => Sys2Proof.Machine.execMalformedAnswerEntry s
  | .matcherTake => Sys2Proof.Machine.execMatcherTake s
  | .drainStep source => Sys2Proof.Machine.execDrainStep source s
  | .transmitStep => Sys2Proof.Machine.execTransmitStep s
  | .halt => Sys2Proof.Machine.execHalt s
  | .swapBanks => Sys2Proof.Machine.execSwapBanks s
  | .copyActiveToStaging => Sys2Proof.Machine.execCopyActiveToStaging s
  | .quiesce => Sys2Proof.Machine.execQuiesce s
  | .resume => Sys2Proof.Machine.execResume s
  | .flushSource => Sys2Proof.Machine.execFlushSource s
  | .softReset => Sys2Proof.Machine.execSoftReset s
  | .alertAck => Sys2Proof.Machine.execAlertAck s
  | .popRecord => Sys2Proof.Machine.execPopRecord s
  | .clearRecords => Sys2Proof.Machine.execClearRecords s
  | .clearStatus => Sys2Proof.Machine.execClearStatus s
  | .sourceConfigurationWrite => Sys2Proof.Machine.execSourceConfigurationWrite s
  | .stagingWindowWrite => Sys2Proof.Machine.execStagingWindowWrite s
  | .timeoutClassWrite => Sys2Proof.Machine.execTimeoutClassWrite s
  | .quarantineLimitWrite => Sys2Proof.Machine.execQuarantineLimitWrite s
  | .tickPeriodWrite => Sys2Proof.Machine.execTickPeriodWrite s
  | .tickRunWrite => Sys2Proof.Machine.execTickRunWrite s
  | .errorMaskWrite => Sys2Proof.Machine.execErrorMaskWrite s
  | .errorSeverityWrite => Sys2Proof.Machine.execErrorSeverityWrite s
  | .errorControlWrite => Sys2Proof.Machine.execErrorControlWrite s
  | .alertConfigurationWrite => Sys2Proof.Machine.execAlertConfigurationWrite s
  | .farSourceIdWrite => Sys2Proof.Machine.execFarSourceIdWrite s
  | .managementWrite => Sys2Proof.Machine.execManagementWrite s
  | .prescaledStep => Sys2Proof.Machine.execPrescaledStep s

end Sys2Proof.Machine
end

