-- ==== Sys2Proof/Machine/Step.lean ====
section
/-! DEFINITION. One step of the part: the command at the front of the queue, or one core clock period. -/

namespace Sys2Proof.Machine

/-- The command at the front is taken from the queue and carried out; on an empty queue one core clock
period passes (assumption 3). -/
def step (s : State) : Host.Outcome State Fault Refusal :=
  match s.pending with
  | [] => .next (clockPeriod s)
  | c :: rest => exec c { s with pending := rest }

/-- The command a table word spells put at the front of the queue (assumption 7). -/
def State.withFetchWord (s : State) (nbits w : Nat) : State :=
  match decodeTableWord nbits w with
  | some c => { s with pending := c :: s.pending }
  | none => s

end Sys2Proof.Machine
end

