-- ==== Sys2Proof/Safety.lean ====
section
/-! DEFINITION. When a step is safe, the invariants of the part, and the words the statements are written in. -/

namespace Sys2Proof.Machine

/-! ### Safe steps -/

/-- A step is safe when it answers a next state: it neither faults nor refuses. -/
def Safe (o : Host.Outcome State Fault Refusal) : Prop := ∃ t, o = .next t

/-! ### Invariants -/

/-- Every list is within its room and every credit count within its range
(R11, R23, R64, R121, R122, R127, R130, R145, R170, R171). -/
structure Bounded (s : State) : Prop where
  ordinary : s.forwardQueue.length + s.malformedOf .ordinary ≤ 32
  management : s.mgmtQueue.length + s.malformedOf .management ≤ 2
  noReturn : ∀ a ∈ s.malformedList, a.pool ≠ .ret
  traffic : s.trafficQueue.length ≤ 32
  ingress : s.ingress.length ≤ 16
  answers : s.mgmtSlots.length ≤ 2
  records : s.err.records.length ≤ 8
  rqCredits : s.rqCredits ≤ 63
  rsCredits : s.rsCredits ≤ 63
  backlog : s.backlog.length + s.activeTags ≤ 64

/-- Every loaded value is one its table permits (R46, R53, R61, R62, R105), and the prescaler stands
inside a division (R106). -/
structure Loaded (s : State) : Prop where
  quota : ∀ n, (getAt s.sources n).quota.toNat ≤ 16
  size : ∀ b w, 12 ≤ (getAt (getAt s.banks b) w).sizeExp.toNat ∧
    (getAt (getAt s.banks b) w).sizeExp.toNat ≤ 40
  base : ∀ b w, (getAt (getAt s.banks b) w).base.toNat * 4096 %
    2 ^ (getAt (getAt s.banks b) w).sizeExp.toNat = 0
  transBase : ∀ b w, (getAt (getAt s.banks b) w).transBase.toNat * 4096 %
    2 ^ (getAt (getAt s.banks b) w).sizeExp.toNat = 0
  timeout : ∀ c, getAt s.timeoutLimits c ≠ 0#12
  quarantine : s.quarantineLimit ≠ 0#12
  reload : s.tick.reload ≠ 0#16
  pendingReload : ∀ p, s.tick.pendingPeriod = some p → p.2 ≠ 0#16
  division : s.tick.division < s.tick.prescale.divisor

/-- A request that passed the format checks (R126). -/
structure WellFormedRequest (r : Request) : Prop where
  length : 1 ≤ r.length ∧ r.length ≤ 64
  payload : r.payload.length = if r.kind = .read then 0 else r.length
  aligned : r.address.toNat % 4 = 0

/-- The queues hold what the ports let in: ordinary requests below the aperture, management requests in
it, and responses whose word counts fit their kinds (R126, R128, R129). -/
structure Sorted (s : State) : Prop where
  ordinary : ∀ w ∈ s.forwardQueue, WellFormedRequest w.req ∧ w.req.address.toNat < 0xFFFFFF0000
  management : ∀ r ∈ s.mgmtQueue, WellFormedRequest r ∧ 0xFFFFFF0000 ≤ r.address.toNat
  data : ∀ p ∈ s.ingress, p.kind = .data → 1 ≤ p.data.length ∧ p.data.length ≤ 16
  noData : ∀ p ∈ s.ingress, p.kind ≠ .data → p.data = []

/-- The Forward Queue's marks, and the head's phase against the request it belongs to
(R24, R25, R27, R34, R38, R43). -/
structure HeadSound (s : State) : Prop where
  empty : s.forwardQueue = [] → s.headPhase = .new
  marked : ∀ w ∈ s.forwardQueue, w.mark = true → w.req.kind ≠ .write
  halted : s.opState = .halted → ∀ w ∈ s.forwardQueue, w.mark = true
  answering : ∀ w rest st, s.forwardQueue = w :: rest → s.headPhase = .answering st → w.req.kind ≠ .write
  unmarked : ∀ w rest c, s.forwardQueue = w :: rest → s.headPhase = .classified c →
    w.mark = false ∧ s.opState ≠ .halted
  cls : ∀ w rest c, s.forwardQueue = w :: rest → s.headPhase = .classified c →
    (c.cls = .nonPosted ↔ w.req.kind ≠ .write)
  ordered : ∀ w rest c, s.forwardQueue = w :: rest → s.headPhase = .classified c →
    c.ordered = true → c.cls = .nonPosted
  reservation : ∀ w rest c, s.forwardQueue = w :: rest → s.headPhase = .classified c →
    c.reservation = if c.ordered = true ∧ w.req.kind = .read then w.req.length else 0
  room : ∀ w rest c, s.forwardQueue = w :: rest → s.headPhase = .classified c →
    c.cls = .nonPosted → (getAt s.sources w.req.source).count < 16

/-- Every record is one that issue or a termination makes, and no limit has run out unseen
(R3, R4, R10, R71, R110). -/
structure RecordsSound (s : State) : Prop where
  limit : ∀ t r, getAt s.tags t = .active r → r.limit ≠ 0#12
  link : ∀ t r, getAt s.tags t = .active r → (r.ordered = true ↔ r.link.isSome = true)
  absorbed : ∀ t r, getAt s.tags t = .active r → r.absorbed = true → r.ordered = false ∧ r.kind = .cwrite
  confirmed : ∀ t r, getAt s.tags t = .active r → r.kind = .cwrite → r.length = 0
  length : ∀ t r, getAt s.tags t = .active r → r.length ≤ 64
  received : ∀ t r, getAt s.tags t = .active r → r.received ≤ r.length
  timely : ∀ t r, getAt s.tags t = .active r → (s.tick.count - r.issueTick).toNat < r.limit.toNat
  quarLimit : ∀ t q, getAt s.tags t = .quarantined q → q.limit ≠ 0#12
  quarTimely : ∀ t q, getAt s.tags t = .quarantined q → (s.tick.count - q.startTick).toNat < q.limit.toNat

/-- The non-absorbed ACTIVE entries of source `n` (R13). -/
def State.countedEntries (s : State) (n : SourceId) : Nat :=
  (List.finRange 64).countP fun t =>
    match getAt s.tags t with
    | .active r => decide (r.source = n) && !r.absorbed
    | _ => false

/-- The COMPLETE and FAILED elements of source `n`'s list (R13). -/
def State.countedElements (s : State) (n : SourceId) : Nat :=
  (getAt s.lists n).countP fun l => (getAt s.slots l).any fun e => decide (e.state ≠ .awaiting)

/-- Return order lists, element slots, entries and outstanding counts agree
(R13, R85, R86, R87, R88, R90). -/
structure OrderSound (s : State) : Prop where
  nodup : ∀ n, (getAt s.lists n).Nodup
  disjoint : ∀ m n l, l ∈ getAt s.lists m → l ∈ getAt s.lists n → m = n
  used : ∀ l, (getAt s.slots l).isSome = true ↔ ∃ n, l ∈ getAt s.lists n
  entry : ∀ t r l, getAt s.tags t = .active r → r.link = some l →
    l ∈ getAt s.lists r.source ∧
      ∃ e, getAt s.slots l = some e ∧ e.link = some t ∧ e.tag = r.tag ∧ e.kind = r.kind ∧
        e.reservation = r.length ∧ e.stored ≤ r.received
  element : ∀ l e t, getAt s.slots l = some e → e.link = some t →
    ∃ r, getAt s.tags t = .active r ∧ r.link = some l
  awaiting : ∀ l e, getAt s.slots l = some e →
    (e.state = .awaiting ↔ e.link.isSome = true) ∧ (e.state = .awaiting → e.storedDone = false)
  complete : ∀ l e, getAt s.slots l = some e → e.state = .complete →
    (e.kind = .cwrite ∧ e.storedDone = true ∧ e.segs = []) ∨
      (e.kind = .read ∧ e.storedDone = false ∧ e.segs ≠ [])
  failed : ∀ l e st, getAt s.slots l = some e → e.state = .failed st → e.segs = [] ∧ e.reservation = 0
  segments : ∀ l e g, getAt s.slots l = some e → g ∈ e.segs → 1 ≤ g.words.length ∧ g.words.length ≤ 16
  stored : ∀ l e, getAt s.slots l = some e → e.stored ≤ e.reservation
  reserved : s.reservedWords ≤ 512
  count : ∀ n, (getAt s.sources n).count = s.countedEntries n + s.countedElements n
  countMax : ∀ n, (getAt s.sources n).count ≤ 16

/-- No answer of the Answer Backlog or of the Malformed Answer List waits beside a free place (R130, R131). -/
structure NoneWaits (s : State) : Prop where
  backlog : s.trafficQueue.length < 32 → s.backlog = []
  malformed : s.trafficQueue.length < 32 → s.malformedList = []

/-- The operating state agrees with the number of ACTIVE tags, and no halt request waits in HALTED
(R15, R16, R153, R155, R178). -/
structure StatesSound (s : State) : Prop where
  drained : s.opState = .quiesced ∨ s.opState = .halted → s.activeTags = 0
  draining : s.opState = .quiescing → 0 < s.activeTags
  halted : s.opState = .halted → s.haltRequested = false

/-- What a port that is DOWN has left behind (R18, R19, R67, R122, R134, R136). -/
structure LinksSound (s : State) : Prop where
  rqCredits : s.rqLink = .down → s.rqCredits = 0
  forward : s.rqLink = .down → s.forwardQueue = []
  management : s.rqLink = .down → s.mgmtQueue = []
  answers : s.rqLink = .down → s.mgmtSlots = []
  traffic : s.rqLink = .down → s.trafficQueue = []
  malformed : s.rqLink = .down → s.malformedList = []
  backlog : s.rqLink = .down → s.backlog = []
  lists : s.rqLink = .down → ∀ n, getAt s.lists n = []
  absorbed : s.rqLink = .down → ∀ t r, getAt s.tags t = .active r → r.absorbed = true
  rsCredits : s.rsLink = .down → s.rsCredits = 0
  ingress : s.rsLink = .down → s.ingress = []
  tags : s.rsLink = .down → ∀ t, getAt s.tags t = .free

/-- One alert class: an IDLE class has latest kind 0 and an empty slot, a class that is not IDLE is enabled and
has a latest kind, and the record count of its ALERT is one the queue can hold (R160 to R163). -/
structure ClassSound (x : AlertClass) : Prop where
  idle : x.state = .idle → x.latest = none ∧ x.slot = none
  told : x.state ≠ .idle → x.enable = true ∧ x.latest.isSome = true
  records : ∀ a, x.slot = some a → a.records ≤ 8

/-- The three alert classes. -/
structure AlertsSound (s : State) : Prop where
  fatal : ClassSound s.alert.fatal
  nonfatal : ClassSound s.alert.nonfatal
  advisory : ClassSound s.alert.advisory

/-- The whole invariant. -/
structure Inv (s : State) : Prop where
  bounded : Bounded s
  loaded : Loaded s
  sorted : Sorted s
  head : HeadSound s
  records : RecordsSound s
  order : OrderSound s
  waits : NoneWaits s
  states : StatesSound s
  links : LinksSound s
  alerts : AlertsSound s

/-! ### The words of the statements -/

/-- What the RQ port has put on its link after `n` indications of byte `b`, sent only while it is UP
(R123, R188: 85h ORDINARY, 8Ah MANAGEMENT). -/
def State.rqSent (s : State) (b : BitVec 8) (n : Nat) : List WireItem :=
  if s.rqLink = .up then s.rqWire ++ List.replicate n (.indication b) else s.rqWire

/-- What the RS port has put on its link after `n` RETURN indications, sent only while it is UP (R123, R188). -/
def State.rsSent (s : State) (n : Nat) : List WireItem :=
  if s.rsLink = .up then s.rsWire ++ List.replicate n (.indication 0x8F#8) else s.rsWire

/-- The header and payload words `words` carry the request `r` (R187, R189). -/
def CarriesRequest (words : List Word) (r : Request) : Prop :=
  ∃ w0 w1 w2, words = w0 :: w1 :: w2 :: r.payload ∧
    w0.toNat / 2 ^ 28 = (match r.kind with | .read => 1 | .write => 2 | .cwrite => 3) ∧
    w0.toNat / 2 ^ 23 % 32 = r.source.val ∧
    w0.toNat / 2 ^ 15 % 256 = r.tag.toNat ∧
    w0.getLsbD 14 = r.ordered ∧
    w0.getLsbD 13 = r.poison ∧
    w0.getLsbD 12 = r.override.isSome ∧
    (∀ c, r.override = some c → w0.toNat / 2 ^ 10 % 4 = c.val) ∧
    w0.toNat % 128 = r.length ∧
    w1.toNat % 256 * 2 ^ 32 + w2.toNat = r.address.toNat

/-- The words carry the request with every spare bit and an absent override's class 0 (R193). -/
def SentRequest (words : List Word) (r : Request) : Prop :=
  CarriesRequest words r ∧
    ∃ w0 w1 w2, words = w0 :: w1 :: w2 :: r.payload ∧ w0.toNat / 2 ^ 7 % 8 = 0 ∧ w1.toNat < 256 ∧
      (r.override = none → w0.toNat / 2 ^ 10 % 4 = 0)

/-- The header and data words `words` carry the response `p`, with word count `n` (R187, R190). -/
def CarriesResponse (words : List Word) (p : Arrived) (n : Nat) : Prop :=
  ∃ w0, words = w0 :: p.data ∧
    w0.toNat / 2 ^ 28 = (match p.kind with | .data => 8 | .done => 9 | .fail => 10) ∧
    w0.toNat / 2 ^ 23 % 32 = p.dest.val ∧
    w0.toNat / 2 ^ 15 % 256 = p.tag.toNat ∧
    w0.toNat / 2 ^ 11 % 16 = p.status.toNat ∧
    w0.getLsbD 10 = p.last ∧
    w0.getLsbD 9 = p.poison ∧
    w0.toNat % 32 = n

/-- Byte address `a` lies in window `w` (R29, R53). -/
def Covers (w : Window) (a : Nat) : Prop :=
  w.base.toNat * 4096 ≤ a ∧ a ≤ w.base.toNat * 4096 + 2 ^ w.sizeExp.toNat - 1

/-- Window `i` of the ACTIVE bank. -/
def State.window (s : State) (i : Fin 16) : Window := getAt (getAt s.banks s.activeBank) i

/-- Window `i` is the lowest-numbered valid window of the ACTIVE bank that contains `a` (R29). -/
def Chosen (s : State) (a : Nat) (i : Fin 16) : Prop :=
  ((s.window i).valid = true ∧ Covers (s.window i) a) ∧
    ∀ j, j < i → ¬((s.window j).valid = true ∧ Covers (s.window j) a)

/-- The identification of a request by its header (R140). -/
def headerIdent (r : Request) : Ident :=
  { source := some r.source, tag := some r.tag, pool := none, kind := some r.kind, address := some r.address }

/-- The identification of an entry with its pool tag; no address (R84, R111). -/
def entryIdent (source : SourceId) (tag : ReqTag) (kind : EntryKind) (g : PoolTag) : Ident :=
  { source := some source, tag := some tag, pool := some g,
    kind := some (match kind with | .read => .read | .cwrite => .cwrite), address := none }

/-- The QUARANTINED state of an abandoned entry, whose quarantine starts now (R10). -/
def State.abandoned (s : State) (r : ActiveRec) : TagState :=
  .quarantined { source := r.source, tag := r.tag, kind := r.kind, startTick := s.tick.count,
                 limit := s.quarantineLimit }

/-- A packet under an ACTIVE tag does not fit the entry's record (R71). -/
def Inconsistent (p : Arrived) (r : ActiveRec) : Prop :=
  (p.kind = .data ∧ r.kind = .cwrite) ∨
  (p.kind = .data ∧ r.kind = .read ∧ r.length < r.received + p.data.length) ∨
  (p.kind = .data ∧ p.last = true ∧ r.kind = .read ∧ r.received + p.data.length < r.length) ∨
  (p.kind = .done ∧ r.kind = .read) ∨
  (p.kind = .fail ∧ p.status ≠ 1#4 ∧ p.status ≠ 5#4)

/-- A live response for the entry goes straight to the Traffic Queue: it is unordered, or its element is
the delivering head of its source's list (R74, R89). -/
def Forwarded (s : State) (r : ActiveRec) : Prop :=
  r.link = none ∨
    ∃ l e rest, r.link = some l ∧ getAt s.lists r.source = l :: rest ∧ getAt s.slots l = some e ∧
      e.state = .awaiting ∧ e.segs = []

/-- The oldest packet has been taken: its slot is free and the credit returned (R65, R67). -/
def takenPacket (rest : List Arrived) (s : State) : State :=
  { s with ingress := rest, rsWire := s.rsSent 1 }

/-- Tag `g` leaves ACTIVE for `x`; the last one to do so in QUIESCING makes the state QUIESCED (R15). -/
def withdrawn (g : PoolTag) (x : TagState) (s : State) : State :=
  let tags := putAt s.tags g x
  { s with
    tags := tags
    opState :=
      if s.opState = .quiescing ∧ tags.toList.countP TagState.isActive = 0 then .quiesced
      else s.opState }

/-- Source `n`'s outstanding count changed by `f`; its configuration is kept. -/
def counted (n : SourceId) (f : Nat → Nat) (s : State) : State :=
  { s with
    sources := putAt s.sources n { getAt s.sources n with count := f (getAt s.sources n).count } }

/-- The final response of an entry that stops being counted has been placed: its element, if it has one, is
removed and the count falls by 1 (R14, R76). -/
def released (source : SourceId) (link : Option SlotId) (s : State) : State :=
  counted source (· - 1)
    (match link with
      | none => s
      | some l =>
        { s with
          lists := putAt s.lists source ((getAt s.lists source).erase l)
          slots := putAt s.slots l none })

/-- The element of slot `l` replaced. -/
def withElement (l : SlotId) (e : Element) (s : State) : State := { s with slots := putAt s.slots l (some e) }

/-- A response joins the tail of the Traffic Queue (R130). -/
def queued (dest : SourceId) (tag : ReqTag) (b : Body) (s : State) : State :=
  { s with trafficQueue := s.trafficQueue ++ [{ dest := dest, tag := tag, body := b }] }

/-- The head has left the Forward Queue, its slot's credit returned (R23). -/
def headGone (rest : List Waiting) (s : State) : State :=
  { s with forwardQueue := rest, headPhase := .new, rqWire := s.rqSent 0x85#8 1 }

/-- A request refused at classification (R35). -/
def refusedHead (w : Waiting) (rest : List Waiting) (k : ErrorKind) (st : Status) (s : State) : State :=
  let u := report k (some .rq) (headerIdent w.req) s
  if w.req.kind = .write then headGone rest u else { u with headPhase := .answering st }

/-- A head that passed classification while the RS port is DOWN (R42). -/
def strandedHead (w : Waiting) (rest : List Waiting) (s : State) : State :=
  if w.req.kind = .write then headGone rest (report .discardedWrite (some .rs) (headerIdent w.req) s)
  else { s with headPhase := .answering .linkDown }

/-- The order element failed with status `st`: its segments are discarded, its reservation released and its
pool tag link absent (R92, R99). -/
def failedElement (e : Element) (st : Status) : Element :=
  { e with state := .failed st, segs := [], reservation := 0, storedDone := false, link := none }

/-- The ACTIVE entries that `which` picks, in ascending order of pool tag (R7). -/
def State.entriesOf (s : State) (which : ActiveRec → Bool) : List (PoolTag × ActiveRec) :=
  (List.finRange 64).filterMap fun g =>
    match getAt s.tags g with
    | .active r => if which r = true then some (g, r) else none
    | _ => none

/-- The FAIL answers with status `st` that the unordered entries among those that `which` picks owe, unless they
are absorbed, in ascending order of pool tag (R7, R8). -/
def State.owedFailsOf (s : State) (which : ActiveRec → Bool) (st : Status) : List BacklogAnswer :=
  (s.entriesOf which).filterMap fun p =>
    if p.2.absorbed = false ∧ p.2.link = none then
      some { source := p.2.source, tag := p.2.tag, status := st }
    else none

/-- The Traffic Queue places that terminations may take directly (R8). -/
def State.directPlaces (s : State) : Nat := if s.backlog = [] then 32 - s.trafficQueue.length else 0

/-- The response an answer of the Answer Backlog stands for (R8, R11). -/
def failResponse (a : BacklogAnswer) : Response := { dest := a.source, tag := a.tag, body := .fail a.status }

/-- State `u` is `s` with every ACTIVE entry that `which` picks terminated, answered with status `st` where an
answer is owed, its tag gone to `dest` (R7, R8, R9, R14). -/
structure Terminated (which : ActiveRec → Bool) (st : Status) (dest : ActiveRec → TagState) (s u : State) :
    Prop where
  tags : ∀ g, getAt u.tags g = match getAt s.tags g with
    | .active r => if which r = true then dest r else .active r
    | x => x
  traffic : u.trafficQueue =
    s.trafficQueue ++ ((s.owedFailsOf which st).take s.directPlaces).map failResponse
  backlog : u.backlog = s.backlog ++ (s.owedFailsOf which st).drop s.directPlaces
  failed : ∀ g r l, getAt s.tags g = .active r → which r = true → r.absorbed = false → r.link = some l →
    getAt u.slots l = (getAt s.slots l).map fun e => failedElement e st
  kept : ∀ l, (∀ g r, getAt s.tags g = .active r → which r = true → r.absorbed = false → r.link ≠ some l) →
    getAt u.slots l = getAt s.slots l
  counts : ∀ n, getAt u.sources n =
    { getAt s.sources n with
      count :=
        (getAt s.sources n).count - (s.owedFailsOf which st).countP fun a => decide (a.source = n) }
  rest : u = { s with tags := u.tags, trafficQueue := u.trafficQueue, backlog := u.backlog, slots := u.slots,
                      sources := u.sources, opState := u.opState }

/-- State `u` is `s` with every ACTIVE entry terminated. -/
abbrev AllTerminated (st : Status) (dest : ActiveRec → TagState) (s u : State) : Prop :=
  Terminated (fun _ => true) st dest s u

/-- RESPONSE_TIMEOUT reported for each of the entries, in their order (R111, R84). -/
def timeoutsReported (l : List (PoolTag × ActiveRec)) (s : State) : State :=
  l.foldl (fun s p => report .responseTimeout (some .rs) (entryIdent p.2.source p.2.tag p.2.kind p.1) s) s

/-- A packet of pool `p` reaches the kind check of the RQ port: the port is UP, the framing byte names `p`
twice, the pool has a free slot and the check word agrees (R118, R120, R121, R188). -/
structure RqAdmitted (s : State) (framing : BitVec 8) (words : List Word) (check : BitVec 16) (p : PoolCode) :
    Prop where
  up : s.rqLink = .up
  pool : (p = .ordinary ∧ framing.toNat % 16 = 5 ∧ s.forwardQueue.length + s.malformedOf .ordinary < 32) ∨
    (p = .management ∧ framing.toNat % 16 = 10 ∧ s.mgmtQueue.length + s.malformedOf .management < 2)
  check : checkWord words = check

/-- The byte of the indication that returns a credit of pool `p` (R188). -/
def returnByte : PoolCode → BitVec 8
  | .ordinary => 0x85#8
  | .management => 0x8A#8
  | .ret => 0x8F#8

/-- A request that travelled in pool `p` is malformed (R126). -/
def Malformed (r : Request) (p : PoolCode) : Prop :=
  r.length = 0 ∨ 64 < r.length ∨ (r.kind ≠ .read ∧ r.payload.length ≠ r.length) ∨
    (r.kind = .read ∧ r.payload ≠ []) ∨ r.address.toNat % 4 ≠ 0 ∨
    (p = .ordinary ∧ 0xFFFFFF0000 ≤ r.address.toNat) ∨ (p = .management ∧ r.address.toNat < 0xFFFFFF0000)

/-- The record of an issued request (R3). -/
def issuedRecord (s : State) (q : Request) (c : Classified) (link : Option SlotId) : ActiveRec :=
  { source := q.source, tag := q.tag, kind := if q.kind = .read then .read else .cwrite,
    length := if q.kind = .read then q.length else 0, received := 0, window := c.window, bank := c.bank,
    limit := getAt s.timeoutLimits c.timeoutClass, issueTick := s.tick.count, ordered := c.ordered,
    absorbed := decide (c.cls = .absorbed), delivered := false, link := link }

/-- The request as sent toward the responder under tag `tag` (R40). -/
def sentRequest (s : State) (q : Request) (c : Classified) (tag : BitVec 8) : Request :=
  { q with
    kind := if c.cls = .absorbed then .cwrite else q.kind
    source := s.farSource
    tag := tag
    ordered := false
    override := none
    address := (c.transBase ++ 0#12 : BitVec 40) + (q.address - (c.base ++ 0#12 : BitVec 40)) }

/-- A request has left on the RS port with pool code ORDINARY twice, one RS transmit credit and a fresh check
word (R118, R133). -/
def requestSent (words : List Word) (s : State) : State :=
  { s with rsCredits := s.rsCredits - 1, rsWire := s.rsWire ++ [.packet 0x05#8 words (checkWord words)] }

/-- A packet has left on the RQ port with pool code RETURN twice, one RQ transmit credit and a fresh check word
(R118, R132). -/
def responseSent (words : List Word) (s : State) : State :=
  { s with rqCredits := s.rqCredits - 1, rqWire := s.rqWire ++ [.packet 0x0F#8 words (checkWord words)] }

/-- The step by which the producer at a position of the ring places a packet of its own accord (R131). -/
def ringCommand (p : Fin 36) : Instr :=
  if p.val = 0 then .malformedAnswerEntry
  else if p.val = 1 then .answerPlacement
  else if p.val = 2 then .backlogEntry
  else if p.val = 3 then .matcherTake
  else .drainStep (Fin.ofNat 32 (p.val - 4))

/-- The producer at position `k` of the ring has a packet to place: the Malformed Answer List, an ANSWERING head,
the Answer Backlog, the Matcher's oldest packet where it is forwarded, and each source's draining head while the RQ
link is UP (R66, R89, R94, R131). -/
def Waits (s : State) (k : Fin 36) : Prop :=
  (k = 0 ∧ s.malformedList ≠ []) ∨
  (k = 1 ∧ s.forwardQueue ≠ [] ∧ ∃ st, s.headPhase = .answering st) ∨
  (k = 2 ∧ s.backlog ≠ []) ∨
  (k = 3 ∧ ∃ p rest, ∃ g : PoolTag, ∃ r, s.ingress = p :: rest ∧ g.val = p.tag.toNat ∧ getAt s.tags g = .active r ∧
    ¬Inconsistent p r ∧ r.absorbed = false ∧ Forwarded s r) ∨
  (∃ n : SourceId, k.val = n.val + 4 ∧ s.rqLink = .up ∧ ∃ l rest e,
    getAt s.lists n = l :: rest ∧ getAt s.slots l = some e ∧
      (e.segs ≠ [] ∨ (e.state = .complete ∧ e.storedDone = true) ∨ ∃ st, e.state = .failed st))

/-- State `u` is `s` after element `e` in slot `l`, the head of source `n`'s list, has sent one packet: its oldest
segment, else its DONE or its FAIL; it is removed with its final response (R94). -/
def Drained (n : SourceId) (l : SlotId) (e : Element) (s u : State) : Prop :=
  (∃ x more, e.segs = x :: more ∧ (more ≠ [] ∨ e.state ≠ .complete ∨ e.storedDone = true) ∧
    u = { queued n e.tag (.data x) s with
      slots := putAt s.slots l (some { e with segs := more })
      tags := match e.link with
        | none => s.tags
        | some g =>
          match getAt s.tags g with
          | .active r => putAt s.tags g (.active { r with delivered := true })
          | _ => s.tags }) ∨
  (∃ x, e.segs = [x] ∧ e.state = .complete ∧ e.storedDone = false ∧
    u = released n (some l) (queued n e.tag (.data x) s)) ∨
  (e.segs = [] ∧ e.state = .complete ∧ e.storedDone = true ∧
    u = released n (some l) (queued n e.tag .done s)) ∨
  (∃ st, e.segs = [] ∧ e.state = .failed st ∧ u = released n (some l) (queued n e.tag (.fail st) s))

/-- State `u` is `s` after the producer at position `k`, the Matcher's apart, has placed one packet
(R11, R35, R94, R127, R131). -/
def Placed (k : Fin 36) (s u : State) : Prop :=
  (k = 0 ∧ ∃ a rest, s.malformedList = a :: rest ∧
    u = { queued a.dest a.tag (.fail .malformed) { s with malformedList := rest } with
      rqWire := s.rqSent (returnByte a.pool) 1 }) ∨
  (k = 1 ∧ ∃ w rest st, s.forwardQueue = w :: rest ∧ s.headPhase = .answering st ∧
    u = headGone rest (queued w.req.source w.req.tag (.fail st) s)) ∨
  (k = 2 ∧ ∃ a rest, s.backlog = a :: rest ∧
    u = queued a.source a.tag (.fail a.status) { s with backlog := rest }) ∨
  (∃ n : SourceId, k.val = n.val + 4 ∧ ∃ l rest e,
    getAt s.lists n = l :: rest ∧ getAt s.slots l = some e ∧ Drained n l e s u)

/-- State `t` is `s` after the producers at the positions have been given one place each in turn, as long as there
is room; one that no longer waits is passed over, and the pointer moves to the position after each one served
(R131). -/
def ServedInTurn : List (Fin 36) → State → State → Prop
  | [], s, t => t = s
  | k :: ks, s, t =>
    (s.trafficQueue.length < 32 → Waits s k →
      ∃ u, Placed k s u ∧ ServedInTurn ks { u with roomPointer := k + 1 } t) ∧
    (32 ≤ s.trafficQueue.length ∨ ¬Waits s k → ServedInTurn ks s t)

/-! ### Management requests in the statements -/

/-- Request `r` is the oldest management request, can be taken, and passes the three checks
(R170, R172); `off` is its word offset (R169). -/
structure Taken (s : State) (r : Request) (rest : List Request) (off : Nat) : Prop where
  oldest : s.mgmtQueue = r :: rest
  slot : r.kind = .write ∨ s.mgmtSlots.length < 2
  valid : (getAt s.sources r.source).valid = true
  permission : (getAt s.sources r.source).permission = true
  one : r.length = 1
  offset : r.address.toNat = 0xFFFFFF0000 + off
  assigned : (mgmtWordAt off).isSome = true

/-- Request `r` is besides an unpoisoned write of `v` (R174). -/
structure WriteTaken (s : State) (r : Request) (rest : List Request) (off : Nat) (v : Word) : Prop
    extends Taken s r rest off where
  write : r.kind ≠ .read
  clean : r.poison = false
  payload : r.payload = [v]

/-- The request has left the Management Queue, answered with `b` unless it is a posted WRITE, its slot's
credit returned (R170, R171). -/
def answered (r : Request) (rest : List Request) (b : Body) (s : State) : State :=
  { s with
    mgmtQueue := rest
    mgmtSlots :=
      if r.kind = .write then s.mgmtSlots
      else s.mgmtSlots ++ [{ dest := r.source, tag := r.tag, body := b }]
    rqWire := s.rqSent 0x8A#8 1 }

/-- The request has been refused with status `st`: MGMT_REFUSED with port none, answered FAIL (R172, R174). -/
def refusedWith (r : Request) (rest : List Request) (st : Status) (s : State) : State :=
  answered r rest (.fail st) (report .mgmtRefused none (headerIdent r) s)

/-- The command word shows the command taken (R175, R196). -/
def shown (v : Word) (refused : Bool) (s : State) : State :=
  { s with commandCode := v.extractLsb' 24 8, commandArg := v.extractLsb' 16 8, commandRefused := refused }

/-- The prescale select values (R107, R197). -/
def prescaleOf (n : Nat) : Prescale :=
  if n = 0 then .div1 else if n = 1 then .div16 else if n = 2 then .div256 else .div4096

/-- Window `w'` is window `w` after a write of `v` to its word `k`, which itself gives a permitted size and a
permitted access (R55 conditions 1 and 2, R196). -/
def StagedWindow (w : Window) (k : Fin 4) (v : Word) (w' : Window) : Prop :=
  (k = 0 ∧ ∃ a, ((v.toNat / 16 % 4 = 1 ∧ a = .readOnly) ∨ (v.toNat / 16 % 4 = 2 ∧ a = .writeOnly) ∨
      (v.toNat / 16 % 4 = 3 ∧ a = .readWrite)) ∧
    w' = { w with valid := v.getLsbD 0, access := a, groups := v.extractLsb' 8 4,
                  cls := Fin.ofNat 4 (v.toNat / 2 ^ 16), absorb := v.getLsbD 20 }) ∨
  (k = 1 ∧ 12 ≤ v.toNat % 64 ∧ v.toNat % 64 ≤ 40 ∧ w' = { w with sizeExp := v.extractLsb' 0 6 }) ∨
  (k = 2 ∧ w' = { w with base := v.extractLsb' 0 28 }) ∨
  (k = 3 ∧ w' = { w with transBase := v.extractLsb' 0 28 })

/-- Both bases are multiples of the window's size (R53, R55 conditions 3 and 4). -/
def AlignedWindow (w : Window) : Prop :=
  w.base.toNat * 4096 % 2 ^ w.sizeExp.toNat = 0 ∧ w.transBase.toNat * 4096 % 2 ^ w.sizeExp.toNat = 0

/-- Severity of a code that names one (R192). -/
def severityOf (n : Nat) : Severity := if n = 1 then .fatal else if n = 2 then .nonfatal else .advisory

/-- An alert class after a write of its enable (R161). -/
def enabledClass (x : AlertClass) (on : Bool) : AlertClass :=
  if x.enable = true ∧ on = false then { enable := false, state := .idle, latest := none, slot := none }
  else { x with enable := on }

/-- The word offset of a read-only word (R168, R194). -/
def ReadOnlyOffset (off : Nat) : Prop :=
  off / 4 ∈ [0, 2, 4, 5, 9, 10, 11, 12, 17, 18, 19, 20, 21, 23] ∨
    (0x100 ≤ off ∧ off < 0x200 ∧ off / 4 % 2 = 1) ∨ (0x500 ≤ off ∧ off < 0x600) ∨ (0x800 ≤ off ∧ off < 0xA00)

/-- The word offset at which a word of the management space stands (R194). -/
def MgmtWord.offset : MgmtWord → Nat
  | .identification => 0x00
  | .command => 0x04
  | .opState => 0x08
  | .farSource => 0x0C
  | .bankStatus => 0x10
  | .holdStatus => 0x14
  | .quarantineLimit => 0x18
  | .tickPeriod => 0x1C
  | .tickRun => 0x20
  | .tickCount => 0x24
  | .rqPort => 0x28
  | .rsPort => 0x2C
  | .errorStatus => 0x30
  | .errorMask => 0x34
  | .errorSeverity false => 0x38
  | .errorSeverity true => 0x3C
  | .errorControl => 0x40
  | .recordStatus => 0x44
  | .recordHead i => 0x48 + 4 * i.val
  | .alertConfig => 0x58
  | .alertStatus => 0x5C
  | .timeoutClass c => 0x60 + 4 * c.val
  | .sourceConfig n => 0x100 + 8 * n.val
  | .sourceCount n => 0x104 + 8 * n.val
  | .staging w k => 0x400 + 16 * w.val + 4 * k.val
  | .active w k => 0x500 + 16 * w.val + 4 * k.val
  | .tagFirst t => 0x800 + 8 * t.val
  | .tagSecond t => 0x804 + 8 * t.val

/-- A flag at bit `k` of a word. -/
def flagAt (k : Nat) (b : Bool) : Nat := if b = true then 2 ^ k else 0

/-- The code of a severity or class (R192). -/
def severityNumber : Severity → Nat
  | .fatal => 1
  | .nonfatal => 2
  | .advisory => 3

/-- The codes of the error kinds (R139). -/
def errorNumber : ErrorKind → Nat
  | .integrityRq => 1
  | .integrityRs => 2
  | .creditOverrunRq => 3
  | .creditOverrunRs => 4
  | .malformedRequest => 5
  | .unknownSource => 6
  | .noWindow => 7
  | .accessDenied => 8
  | .mgmtRefused => 9
  | .quotaRetry => 10
  | .responseTimeout => 11
  | .lateResponse => 12
  | .unexpectedResponse => 13
  | .responseMismatch => 14
  | .poisonedData => 15
  | .absorbedWriteFailed => 16
  | .linkDownRq => 17
  | .linkDownRs => 18
  | .discardedWrite => 19
  | .malformedResponse => 20

/-- The prescale select (R197). -/
def prescaleNumber : Prescale → Nat
  | .div1 => 0
  | .div16 => 1
  | .div256 => 2
  | .div4096 => 3

/-- Word `k` of a window (R196). -/
def windowLayout (w : Window) : Fin 4 → Nat
  | 0 => flagAt 0 w.valid
      + 2 ^ 4 * (match w.access with | .readOnly => 1 | .writeOnly => 2 | .readWrite => 3)
      + 2 ^ 8 * w.groups.toNat + 2 ^ 16 * w.cls.val + flagAt 20 w.absorb
  | 1 => w.sizeExp.toNat
  | 2 => w.base.toNat
  | 3 => w.transBase.toNat

/-- Record head word `i`; an absent field is 0 (R198). -/
def recordLayout (r : Record) : Fin 4 → Nat
  | 0 => errorNumber r.kind + 2 ^ 5 * severityNumber r.severity
      + 2 ^ 7 * (match r.port with | none => 0 | some .rq => 1 | some .rs => 2) + 2 ^ 16 * r.stamp.toNat
  | 1 => flagAt 0 r.ident.source.isSome + flagAt 1 r.ident.tag.isSome + flagAt 2 r.ident.pool.isSome
      + flagAt 3 r.ident.kind.isSome + flagAt 4 r.ident.address.isSome
      + 2 ^ 8 * (match r.ident.source with | none => 0 | some n => n.val)
      + 2 ^ 16 * (match r.ident.tag with | none => 0 | some t => t.toNat)
      + 2 ^ 24 * (match r.ident.pool with | none => 0 | some g => g.val)
  | 2 => (match r.ident.kind with | none => 0 | some .read => 1 | some .write => 2 | some .cwrite => 3)
      + 2 ^ 8 * (match r.ident.address with | none => 0 | some a => a.toNat / 2 ^ 32)
  | 3 => match r.ident.address with | none => 0 | some a => a.toNat % 2 ^ 32

/-- The byte of an alert class (R197). -/
def alertByte (x : AlertClass) : Nat :=
  (match x.state with | .idle => 0 | .outstanding => 1 | .pending => 2)
    + 2 ^ 2 * (match x.latest with | none => 0 | some k => errorNumber k) + flagAt 7 x.slot.isSome

/-- The kind field of a tag's view (R199). -/
def entryNumber : EntryKind → Nat
  | .read => 1
  | .cwrite => 3

/-- The first word of a tag's view (R22, R199). -/
def firstLayout : TagState → Nat
  | .free => 0
  | .active r => 1 + 2 ^ 2 * r.source.val + 2 ^ 7 * r.tag.toNat + 2 ^ 15 * entryNumber r.kind
      + flagAt 17 r.ordered + flagAt 18 r.absorbed + flagAt 19 r.delivered + 2 ^ 20 * r.received
      + 2 ^ 27 * r.window.val + 2 ^ 31 * r.bank.val
  | .quarantined q => 2 + 2 ^ 2 * q.source.val + 2 ^ 7 * q.tag.toNat + 2 ^ 15 * entryNumber q.kind

/-- The second word of a tag's view (R22, R199). -/
def secondLayout : TagState → Nat
  | .free => 0
  | .active r => 1 + 2 ^ 2 * r.limit.toNat + 2 ^ 16 * r.issueTick.toNat
  | .quarantined q => 2 + 2 ^ 2 * q.limit.toNat + 2 ^ 16 * q.startTick.toNat

/-- What the elements in use hold in sum. -/
def State.overElements (s : State) (f : Element → Nat) : Nat :=
  ((List.finRange 64).map fun l => match getAt s.slots l with | some e => f e | none => 0).sum

/-- The tags whose state `f` picks. -/
def State.tagsWhere (s : State) (f : TagState → Bool) : Nat := (List.finRange 64).countP fun g => f (getAt s.tags g)

/-- The value of each word of the management space: its fields at their positions, spare bits 0
(R22, R52, R138, R159, R167, R175, R181, R194 to R199). -/
def State.layout (s : State) : MgmtWord → Nat
  | .identification => 1 + 2 ^ 8 * 640 + 2 ^ 20 * 0xA7D
  | .command => flagAt 0 s.commandRefused + 2 ^ 16 * s.commandArg.toNat + 2 ^ 24 * s.commandCode.toNat
  | .opState =>
    (match s.opState with | .run => 0 | .quiescing => 1 | .quiesced => 2 | .halted => 3)
      + 2 ^ 8 * s.tagsWhere (fun x => match x with | .active _ => true | _ => false)
      + flagAt 16 (decide (0 < s.tagsWhere fun x => match x with | .quarantined _ => true | _ => false))
  | .farSource => s.farSource.val
  | .bankStatus => s.activeBank.val + 2 ^ 16 * s.swapCount.toNat
  | .holdStatus => s.overElements (fun e => e.reservation)
      + 2 ^ 10 * s.overElements (fun e => (e.segs.map fun g => g.words.length).sum)
      + 2 ^ 20 * s.overElements (fun _ => 1)
  | .quarantineLimit => s.quarantineLimit.toNat
  | .tickPeriod =>
    match s.tick.pendingPeriod with
    | none => prescaleNumber s.tick.prescale + 2 ^ 16 * s.tick.reload.toNat
    | some p => prescaleNumber p.1 + 2 ^ 16 * p.2.toNat
  | .tickRun => flagAt 0 s.tick.run
  | .tickCount => s.tick.count.toNat + flagAt 16 s.tick.pendingPeriod.isSome
  | .rqPort => flagAt 0 (decide (s.rqLink = .up)) + 2 ^ 1 * s.rqCredits
      + 2 ^ 7 * (32 - (s.forwardQueue.length + s.malformedList.countP fun a => decide (a.pool = .ordinary)))
      + 2 ^ 13 * (2 - (s.mgmtQueue.length + s.malformedList.countP fun a => decide (a.pool = .management)))
      + 2 ^ 15 * s.trafficQueue.length + 2 ^ 21 * s.malformedList.length
  | .rsPort => flagAt 0 (decide (s.rsLink = .up)) + 2 ^ 1 * s.rsCredits + 2 ^ 7 * (16 - s.ingress.length)
      + 2 ^ 12 * s.ingress.length
  | .errorStatus => ((List.finRange 20).map fun i => flagAt (i.val + 1) (getAt s.err.items i).status).sum
  | .errorMask => ((List.finRange 20).map fun i => flagAt (i.val + 1) (getAt s.err.items i).mask).sum
  | .errorSeverity false =>
    ((List.finRange 10).map fun i =>
      4 ^ i.val * severityNumber (getAt s.err.items (Fin.ofNat 20 i.val)).severity).sum
  | .errorSeverity true =>
    ((List.finRange 10).map fun i =>
      4 ^ i.val * severityNumber (getAt s.err.items (Fin.ofNat 20 (i.val + 10))).severity).sum
  | .errorControl => flagAt 0 s.err.haltOnFatal
      + flagAt 1 ((List.finRange 20).any fun i =>
          let x := getAt s.err.items i
          x.status && !x.mask && decide (x.severity = .fatal))
  | .recordStatus => s.err.records.length + flagAt 8 s.err.overflowed
  | .recordHead i => match s.err.records with | [] => 0 | r :: _ => recordLayout r i
  | .alertConfig => s.alert.dest.val + flagAt 8 s.alert.destValid + flagAt 16 s.alert.fatal.enable
      + flagAt 17 s.alert.nonfatal.enable + flagAt 18 s.alert.advisory.enable
  | .alertStatus =>
    alertByte s.alert.fatal + 2 ^ 8 * alertByte s.alert.nonfatal + 2 ^ 16 * alertByte s.alert.advisory
  | .timeoutClass c => (getAt s.timeoutLimits c).toNat
  | .sourceConfig n =>
    let e := getAt s.sources n
    flagAt 0 e.valid + 2 ^ 1 * e.group.val + 2 ^ 4 * e.quota.toNat + flagAt 12 e.permission
      + 2 ^ 16 * (match e.order with | .none => 0 | .all => 1 | .flagged => 2)
  | .sourceCount n => (getAt s.sources n).count
  | .staging w k => windowLayout (getAt (getAt s.banks (1 - s.activeBank)) w) k
  | .active w k => windowLayout (getAt (getAt s.banks s.activeBank) w) k
  | .tagFirst t => firstLayout (getAt s.tags t)
  | .tagSecond t => secondLayout (getAt s.tags t)

/-- A packet, as against an indication or a restart. -/
def WireItem.isPacket : WireItem → Bool
  | .packet _ _ _ => true
  | .indication _ => false
  | .restart => false

/-- The packets a link has carried. -/
def packetsOn (wire : List WireItem) : Nat := wire.countP WireItem.isPacket

/-- The command of a row (opcode_table.json). -/
def MgmtRow.command : MgmtRow → Instr
  | .swapBanks => .swapBanks
  | .copyActiveToStaging => .copyActiveToStaging
  | .quiesce => .quiesce
  | .resume => .resume
  | .flushSource => .flushSource
  | .softReset => .softReset
  | .alertAck => .alertAck
  | .popRecord => .popRecord
  | .clearRecords => .clearRecords
  | .clearStatus => .clearStatus
  | .sourceConfiguration => .sourceConfigurationWrite
  | .stagingWindow => .stagingWindowWrite
  | .timeoutClass => .timeoutClassWrite
  | .quarantineLimit => .quarantineLimitWrite
  | .tickPeriod => .tickPeriodWrite
  | .tickRun => .tickRunWrite
  | .errorMask => .errorMaskWrite
  | .errorSeverity => .errorSeverityWrite
  | .errorControl => .errorControlWrite
  | .alertConfiguration => .alertConfigurationWrite
  | .farSource => .farSourceIdWrite
  | .other => .managementWrite

/-- What only the Management Agent and the resets write is the same in both states. -/
structure SameSettings (s t : State) : Prop where
  farSource : t.farSource = s.farSource
  command : t.commandCode = s.commandCode ∧ t.commandArg = s.commandArg ∧ t.commandRefused = s.commandRefused
  configuration : ∀ n, { getAt t.sources n with count := 0 } = { getAt s.sources n with count := 0 }
  banks : t.banks = s.banks ∧ t.activeBank = s.activeBank ∧ t.swapCount = s.swapCount
  limits : t.timeoutLimits = s.timeoutLimits ∧ t.quarantineLimit = s.quarantineLimit
  strapPins : t.strapPins = s.strapPins
  masks : ∀ i, (getAt t.err.items i).mask = (getAt s.err.items i).mask
  severities : ∀ i, (getAt t.err.items i).severity = (getAt s.err.items i).severity
  haltOnFatal : t.err.haltOnFatal = s.err.haltOnFatal
  run : t.tick.run = s.tick.run
  alertDest : t.alert.dest = s.alert.dest ∧ t.alert.destValid = s.alert.destValid
  enables : t.alert.fatal.enable = s.alert.fatal.enable ∧ t.alert.nonfatal.enable = s.alert.nonfatal.enable ∧
    t.alert.advisory.enable = s.alert.advisory.enable

end Sys2Proof.Machine
end

