-- ==== Sys2Proof/Certificates/Slice0/Obligations.lean ====
section
/-! DEFINITION. The statements for the provers, in the order of OBLIGATIONS.json. -/

section

open Sys2Proof Sys2Proof.Machine

/-! ### The step, the clock and device reset -/

/-- A step takes the command at the front of the queue and carries it out on the state with the queue's rest. -/
def Obligations.StepTakesFrontCommand : Prop :=
  ∀ (c : Instr) (rest : List Instr) (s : State),
    s.pending = c :: rest → step s = exec c { s with pending := rest }

/-- Every command answers a next state in every state, where its event's condition is absent too (the model's choice,
assumption 1), and leaves the queue behind it as it is, a device reset included (assumption 6). -/
def Obligations.EveryCommandAnswersNext : Prop :=
  ∀ (c : Instr) (s : State), ∃ t, exec c s = .next t ∧ t.pending = s.pending

/-- A step on an empty queue is one core clock period (the model's choice, assumption 3): nothing while the run
flag is clear, a step of the prescaler's division while the division lasts, else the prescaled step of R106. The
prescaled step moves nothing while the run flag is clear, lowers a counter above 0 by 1 and nothing else, and at
counter 0 is the tick event. -/
def Obligations.ClockPeriodAndPrescaledStep : Prop :=
  ∀ s : State,
    (s.pending = [] → s.tick.run = false → step s = .next s) ∧
    (s.pending = [] → s.tick.run = true → s.tick.division + 1 < s.tick.prescale.divisor →
      step s = .next { s with tick := { s.tick with division := s.tick.division + 1 } }) ∧
    (s.pending = [] → s.tick.run = true → s.tick.prescale.divisor ≤ s.tick.division + 1 →
      step s = exec .prescaledStep { s with tick := { s.tick with division := 0 } }) ∧
    (s.tick.run = false → exec .prescaledStep s = .next s) ∧
    (s.tick.run = true → s.tick.downCounter ≠ 0#16 →
      exec .prescaledStep s =
        .next { s with tick := { s.tick with downCounter := s.tick.downCounter - 1#16 } }) ∧
    (s.tick.run = true → s.tick.downCounter = 0#16 → exec .prescaledStep s = exec .tickEvent s)

/-- DEVICE_RESET with the strap pins at `n` leaves every block at its device-reset value. What has left on the
links and what waits in the queue are the model's own and stay (assumption 6). That a halt request made and not taken
is dropped is read from R183 (assumption 20). -/
def Obligations.DeviceResetValues : Prop :=
  ∀ (n : SourceId) (s : State), ∃ t, exec (.deviceReset n) s = .next t ∧
    t.opState = .run ∧ t.commandCode = 0#8 ∧ t.commandArg = 0#8 ∧ t.commandRefused = false ∧
    t.farSource = 0 ∧ t.mgmtQueue = [] ∧ t.mgmtSlots = [] ∧ t.haltRequested = false ∧
    (∀ m, getAt t.sources m =
      if m = n then
        { valid := true, group := 0, quota := 4#5, permission := true, order := .none, count := 0 }
      else { valid := false, group := 0, quota := 0#5, permission := false, order := .none, count := 0 }) ∧
    (∀ b w, getAt (getAt t.banks b) w =
      { valid := false, base := 0#28, sizeExp := 12#6, access := .readOnly, groups := 0#4, transBase := 0#28,
        cls := 0, absorb := false }) ∧
    t.activeBank = 0 ∧ t.swapCount = 0#16 ∧
    getAt t.timeoutLimits 0 = 10#12 ∧ getAt t.timeoutLimits 1 = 50#12 ∧ getAt t.timeoutLimits 2 = 200#12 ∧
    getAt t.timeoutLimits 3 = 1000#12 ∧ t.quarantineLimit = 20#12 ∧ t.strapPins = n ∧
    (∀ g, getAt t.tags g = .free) ∧ t.backlog = [] ∧ t.forwardQueue = [] ∧ t.headPhase = .new ∧
    (∀ l, getAt t.slots l = none) ∧ (∀ m, getAt t.lists m = []) ∧
    t.tick = { prescale := .div256, reload := 976#16, pendingPeriod := none, downCounter := 976#16,
               run := true, count := 0#16, division := 0 } ∧
    t.rqLink = .down ∧ t.rsLink = .down ∧ t.rqCredits = 0 ∧ t.rsCredits = 0 ∧ t.trafficQueue = [] ∧
    t.malformedList = [] ∧ t.roomPointer = 0 ∧ t.ingress = [] ∧
    (∀ k, (t.err.item k).status = false ∧ (t.err.item k).mask = false) ∧
    (∀ k, (t.err.item k).severity = .fatal ↔
      k = .creditOverrunRq ∨ k = .creditOverrunRs ∨ k = .linkDownRq ∨ k = .linkDownRs) ∧
    (∀ k, (t.err.item k).severity = .advisory ↔
      k = .integrityRq ∨ k = .integrityRs ∨ k = .quotaRetry ∨ k = .lateResponse ∨ k = .poisonedData) ∧
    t.err.records = [] ∧ t.err.overflowed = false ∧ t.err.haltOnFatal = true ∧
    t.alert.dest = 0 ∧ t.alert.destValid = false ∧
    t.alert.fatal = { enable := false, state := .idle, latest := none, slot := none } ∧
    t.alert.nonfatal = { enable := false, state := .idle, latest := none, slot := none } ∧
    t.alert.advisory = { enable := false, state := .idle, latest := none, slot := none } ∧
    t.rqWire = s.rqWire ∧ t.rsWire = s.rsWire ∧ t.pending = s.pending

/-- R21: the Outstanding Table, the Answer Backlog and the counts at device reset. -/
def Obligations.DeviceResetFreesEveryTag : Prop :=
  ∀ (n : SourceId) (s : State), ∃ t, exec (.deviceReset n) s = .next t ∧
    (∀ g, getAt t.tags g = .free) ∧ t.backlog = [] ∧ (∀ m, (getAt t.sources m).count = 0) ∧
    t.activeTags = 0 ∧ (∀ g q, getAt t.tags g ≠ .quarantined q)

/-- What a READ of each word shows right after a device reset with the strap pins at `n`. -/
def Obligations.WordsAfterDeviceReset : Prop :=
  ∀ (n : SourceId) (s : State), ∃ t, exec (.deviceReset n) s = .next t ∧
    t.readWord .identification = 0xA7D28001#32 ∧ t.readWord .command = 0#32 ∧ t.readWord .opState = 0#32 ∧
    t.readWord .farSource = 0#32 ∧ t.readWord .bankStatus = 0#32 ∧ t.readWord .holdStatus = 0#32 ∧
    t.readWord .quarantineLimit = 20#32 ∧ t.readWord .tickPeriod = 0x03D00002#32 ∧
    t.readWord .tickRun = 1#32 ∧ t.readWord .tickCount = 0#32 ∧
    t.readWord .rqPort = 0x5000#32 ∧ t.readWord .rsPort = 0x800#32 ∧
    t.readWord .errorStatus = 0#32 ∧ t.readWord .errorMask = 0#32 ∧
    t.readWord (.errorSeverity false) = 0x000EAA5F#32 ∧ t.readWord (.errorSeverity true) = 0x000A5BAE#32 ∧
    t.readWord .errorControl = 1#32 ∧ t.readWord .recordStatus = 0#32 ∧
    (∀ i, t.readWord (.recordHead i) = 0#32) ∧ t.readWord .alertConfig = 0#32 ∧
    t.readWord .alertStatus = 0#32 ∧ t.readWord (.timeoutClass 0) = 10#32 ∧
    t.readWord (.timeoutClass 1) = 50#32 ∧ t.readWord (.timeoutClass 2) = 200#32 ∧
    t.readWord (.timeoutClass 3) = 1000#32 ∧ t.readWord (.sourceConfig n) = 0x1041#32 ∧
    (∀ m, m ≠ n → t.readWord (.sourceConfig m) = 0#32) ∧ (∀ m, t.readWord (.sourceCount m) = 0#32) ∧
    (∀ w, t.readWord (.staging w 0) = 0x10#32 ∧ t.readWord (.active w 0) = 0x10#32 ∧
      t.readWord (.staging w 1) = 12#32 ∧ t.readWord (.active w 1) = 12#32 ∧
      t.readWord (.staging w 2) = 0#32 ∧ t.readWord (.active w 2) = 0#32 ∧
      t.readWord (.staging w 3) = 0#32 ∧ t.readWord (.active w 3) = 0#32) ∧
    (∀ g, t.readWord (.tagFirst g) = 0#32 ∧ t.readWord (.tagSecond g) = 0#32)

/-! ### The links -/

/-- LINK UP has no effect on a port that is UP. A port that is DOWN comes UP with no transmit credits and sends
one credit-return indication for each free slot, the ORDINARY ones first (that order is assumption 13). -/
def Obligations.LinkUpReturnsCredits : Prop :=
  ∀ s : State,
    (s.rqLink = .up → exec .rqLinkUp s = .next s) ∧
    (s.rqLink = .down → exec .rqLinkUp s = .next { s with
      rqLink := .up
      rqCredits := 0
      rqWire := s.rqWire
        ++ List.replicate (32 - (s.forwardQueue.length + s.malformedOf .ordinary)) (.indication 0x85#8)
        ++ List.replicate (2 - (s.mgmtQueue.length + s.malformedOf .management)) (.indication 0x8A#8) }) ∧
    (s.rsLink = .up → exec .rsLinkUp s = .next s) ∧
    (s.rsLink = .down → exec .rsLinkUp s = .next { s with
      rsLink := .up
      rsCredits := 0
      rsWire := s.rsWire ++ List.replicate (16 - s.ingress.length) (.indication 0x8F#8) })

/-- LINK DOWN on the RQ port: no effect while it is DOWN; while it is UP, the queues and the lists are emptied,
the entries that are not absorbed are quarantined, every count is 0, the alert classes are IDLE with empty slots,
and after these LINK_DOWN_RQ is reported. -/
def Obligations.RqLinkDownTeardown : Prop :=
  ∀ s : State,
    (s.rqLink = .down → exec .rqLinkDown s = .next s) ∧
    (s.rqLink = .up → ∃ (tags : Table TagState 64) (sources : Table SourceEntry 32),
      (∀ g, getAt tags g = match getAt s.tags g with
        | .active r => if r.absorbed then .active r else s.abandoned r
        | x => x) ∧
      (∀ n, getAt sources n = { getAt s.sources n with count := 0 }) ∧
      exec .rqLinkDown s = .next (report .linkDownRq (some .rq) Ident.none { s with
        rqLink := .down, rqCredits := 0, forwardQueue := [], headPhase := .new, mgmtQueue := []
        mgmtSlots := [], trafficQueue := [], malformedList := [], backlog := []
        tags := tags, sources := sources, lists := fillTable 32 [], slots := fillTable 64 none
        opState :=
          if s.opState = .quiescing ∧ 0 < s.activeTags ∧ tags.toList.countP TagState.isActive = 0 then
            .quiesced
          else s.opState
        alert := { s.alert with
          fatal := { s.alert.fatal with state := .idle, latest := none, slot := none }
          nonfatal := { s.alert.nonfatal with state := .idle, latest := none, slot := none }
          advisory := { s.alert.advisory with state := .idle, latest := none, slot := none } } }))

/-- LINK DOWN on the RS port: no effect while it is DOWN; while it is UP, the ingress buffer is emptied, every
entry is terminated with LINK_DOWN into FREE, every QUARANTINED tag is FREE, a CLASSIFIED head in RUN is answered
or discarded, and after these LINK_DOWN_RS is reported and the free places are given out. `distribute` is
assumption 8. -/
def Obligations.RsLinkDownTeardown : Prop :=
  ∀ s : State, HeadSound s →
    (s.rsLink = .down → exec .rsLinkDown s = .next s) ∧
    (s.rsLink = .up → ∃ u v h : State,
      AllTerminated .linkDown (fun _ => .free)
        { s with rsLink := .down, rsCredits := 0, ingress := [] } u ∧
      u.opState = (if s.opState = .quiescing ∧ 0 < s.activeTags then .quiesced else s.opState) ∧
      v = { u with tags := fillTable 64 .free } ∧
      (∀ w rest c, s.forwardQueue = w :: rest → s.headPhase = .classified c → s.opState = .run →
        h = strandedHead w rest v) ∧
      ((∀ c, s.headPhase ≠ .classified c) ∨ s.opState ≠ .run → h = v) ∧
      exec .rsLinkDown s = .next (distribute s (report .linkDownRs (some .rs) Ident.none h)))

/-! ### What arrives -/

/-- An RQ packet that the port stops before the kind check: nothing is received while the port is DOWN; a framing
failure is a LINK DOWN with a restart of the link; a packet without a credit changes no slot and returns no credit;
a check word that fails, or a kind that is no request's, returns the slot's credit. A packet too short for three
header words fails the kind check (R187). -/
def Obligations.RqArrivalStoppedAtThePort : Prop :=
  ∀ (framing : BitVec 8) (words : List Word) (check : BitVec 16) (s : State),
    (s.rqLink = .down → exec (.rqArrival framing words check) s = .next s) ∧
    (s.rqLink = .up → framing.toNat % 16 ≠ 5 → framing.toNat % 16 ≠ 10 →
      ∃ t, exec .rqLinkDown s = .next t ∧
        exec (.rqArrival framing words check) s = .next { t with rqWire := t.rqWire ++ [.restart] }) ∧
    (s.rqLink = .up →
      (framing.toNat % 16 = 5 ∧ 32 ≤ s.forwardQueue.length + s.malformedOf .ordinary) ∨
        (framing.toNat % 16 = 10 ∧ 2 ≤ s.mgmtQueue.length + s.malformedOf .management) →
      exec (.rqArrival framing words check) s =
        .next (report .creditOverrunRq (some .rq) Ident.none s)) ∧
    (∀ p, RqAdmitted s framing words (checkWord words) p → checkWord words ≠ check →
      exec (.rqArrival framing words check) s =
        .next (report .integrityRq (some .rq) Ident.none { s with rqWire := s.rqSent (returnByte p) 1 })) ∧
    (∀ p w0 more, RqAdmitted s framing words check p → words = w0 :: more →
      more.length < 2 ∨ w0.toNat / 2 ^ 28 = 0 ∨ 3 < w0.toNat / 2 ^ 28 →
      exec (.rqArrival framing words check) s =
        .next (report .malformedRequest (some .rq)
          { source := some (Fin.ofNat 32 (w0.toNat / 2 ^ 23)), tag := some (BitVec.ofNat 8 (w0.toNat / 2 ^ 15)),
            pool := none, kind := none, address := none }
          { s with rqWire := s.rqSent (returnByte p) 1 })) ∧
    (∀ p, RqAdmitted s framing words check p → words = [] →
      exec (.rqArrival framing words check) s =
        .next (report .malformedRequest (some .rq) Ident.none { s with rqWire := s.rqSent (returnByte p) 1 }))

/-- A malformed request raises MALFORMED_REQUEST with its header's fields. A WRITE is discarded; a READ or CWRITE
is answered FAIL MALFORMED, into the Traffic Queue when the Malformed Answer List is empty and there is room, else
onto that list with its slot kept. -/
def Obligations.MalformedRequestIsAnswered : Prop :=
  ∀ (framing : BitVec 8) (words : List Word) (check : BitVec 16) (p : PoolCode) (r : Request) (s : State),
    RqAdmitted s framing words check p → CarriesRequest words r → Malformed r p →
    let u := report .malformedRequest (some .rq) (headerIdent r) s
    (r.kind = .write →
      exec (.rqArrival framing words check) s = .next { u with rqWire := u.rqSent (returnByte p) 1 }) ∧
    (r.kind ≠ .write → s.malformedList = [] → s.trafficQueue.length < 32 →
      exec (.rqArrival framing words check) s =
        .next (queued r.source r.tag (.fail .malformed) { u with rqWire := u.rqSent (returnByte p) 1 })) ∧
    (r.kind ≠ .write → s.malformedList ≠ [] ∨ 32 ≤ s.trafficQueue.length →
      exec (.rqArrival framing words check) s =
        .next { u with malformedList := s.malformedList ++ [{ dest := r.source, tag := r.tag, pool := p }] })

/-- A well-formed request joins the tail of the queue of its pool, its halt mark set exactly in HALTED; a posted
WRITE of the ORDINARY pool that arrives in HALTED is discarded with DISCARDED_WRITE and its credit returned. -/
def Obligations.WellFormedRequestIsSorted : Prop :=
  ∀ (framing : BitVec 8) (words : List Word) (check : BitVec 16) (p : PoolCode) (r : Request) (s : State),
    RqAdmitted s framing words check p → CarriesRequest words r → ¬Malformed r p →
    (p = .management →
      exec (.rqArrival framing words check) s = .next { s with mgmtQueue := s.mgmtQueue ++ [r] }) ∧
    (p = .ordinary → s.opState ≠ .halted ∨ r.kind ≠ .write →
      exec (.rqArrival framing words check) s = .next { s with
        forwardQueue := s.forwardQueue ++ [{ req := r, mark := decide (s.opState = .halted) }] }) ∧
    (p = .ordinary → s.opState = .halted → r.kind = .write →
      let u := report .discardedWrite (some .rq) (headerIdent r) s
      exec (.rqArrival framing words check) s = .next { u with rqWire := u.rqSent 0x85#8 1 })

/-- RS_ARRIVAL: nothing is received while the port is DOWN; a framing failure is a LINK DOWN with a restart of the
link; a packet without a credit is reported; a check word that fails returns the slot's credit; a malformed
response is reported with its tag when that is 63 or below (assumption 11); a well-formed one joins the tail of
the ingress buffer. -/
def Obligations.ResponseArrival : Prop :=
  ∀ (framing : BitVec 8) (words : List Word) (check : BitVec 16) (s : State),
    (s.rsLink = .down → exec (.rsArrival framing words check) s = .next s) ∧
    (s.rsLink = .up → framing.toNat % 16 ≠ 15 →
      ∃ t, exec .rsLinkDown s = .next t ∧
        exec (.rsArrival framing words check) s = .next { t with rsWire := t.rsWire ++ [.restart] }) ∧
    (s.rsLink = .up → framing.toNat % 16 = 15 → 16 ≤ s.ingress.length →
      exec (.rsArrival framing words check) s =
        .next (report .creditOverrunRs (some .rs) Ident.none s)) ∧
    (s.rsLink = .up → framing.toNat % 16 = 15 → s.ingress.length < 16 →
      let u := { s with rsWire := s.rsSent 1 }
      (checkWord words ≠ check →
        exec (.rsArrival framing words check) s = .next (report .integrityRs (some .rs) Ident.none u)) ∧
      (checkWord words = check → words = [] →
        exec (.rsArrival framing words check) s = .next (report .malformedResponse (some .rs) Ident.none u)) ∧
      (∀ w0 data, checkWord words = check → words = w0 :: data →
        (w0.toNat / 2 ^ 28 < 8 ∨ 10 < w0.toNat / 2 ^ 28) ∨
          (w0.toNat / 2 ^ 28 = 8 ∧ (w0.toNat % 32 = 0 ∨ 16 < w0.toNat % 32)) ∨
          (w0.toNat / 2 ^ 28 ≠ 8 ∧ w0.toNat % 32 ≠ 0) ∨
          data.length ≠ w0.toNat % 32 ∨ w0.toNat / 2 ^ 23 % 32 ≠ s.farSource.val →
        (64 ≤ w0.toNat / 2 ^ 15 % 256 →
          exec (.rsArrival framing words check) s =
            .next (report .malformedResponse (some .rs) Ident.none u)) ∧
        (∀ g : PoolTag, g.val = w0.toNat / 2 ^ 15 % 256 →
          exec (.rsArrival framing words check) s =
            .next (report .malformedResponse (some .rs) { Ident.none with pool := some g } u))) ∧
      (∀ p, checkWord words = check → CarriesResponse words p p.data.length → p.dest = s.farSource →
        (p.kind = .data ∧ 1 ≤ p.data.length ∧ p.data.length ≤ 16) ∨ (p.kind ≠ .data ∧ p.data = []) →
        exec (.rsArrival framing words check) s = .next { s with ingress := s.ingress ++ [p] }))

/-- A credit-return indication of the pool of the port's transmit direction raises the transmit credits by 1, not
above 63; on the RS port the first credit lets a CLASSIFIED head go in the same step (the model's reading of R37,
assumption 9). One that names another pool is a framing failure, and a port that is DOWN receives none. -/
def Obligations.CreditReturnIndications : Prop :=
  ∀ (byte : BitVec 8) (s : State),
    (s.rqLink = .down → exec (.creditReturnIndication .rq byte) s = .next s) ∧
    (s.rqLink = .up → byte.toNat % 16 = 15 →
      exec (.creditReturnIndication .rq byte) s =
        .next { s with rqCredits := if s.rqCredits < 63 then s.rqCredits + 1 else s.rqCredits }) ∧
    (s.rqLink = .up → byte.toNat % 16 ≠ 15 →
      ∃ t, exec .rqLinkDown s = .next t ∧
        exec (.creditReturnIndication .rq byte) s = .next { t with rqWire := t.rqWire ++ [.restart] }) ∧
    (s.rsLink = .down → exec (.creditReturnIndication .rs byte) s = .next s) ∧
    (s.rsLink = .up → byte.toNat % 16 = 5 →
      let u := { s with rsCredits := if s.rsCredits < 63 then s.rsCredits + 1 else s.rsCredits }
      (s.rsCredits ≠ 0 ∨ (∀ c, s.headPhase ≠ .classified c) →
        exec (.creditReturnIndication .rs byte) s = .next u) ∧
      (∀ c, s.rsCredits = 0 → s.headPhase = .classified c →
        exec (.creditReturnIndication .rs byte) s =
          exec (if c.cls = .plainPosted then .issuePlainPosted else .issue) u)) ∧
    (s.rsLink = .up → byte.toNat % 16 ≠ 5 →
      ∃ t, exec .rsLinkDown s = .next t ∧
        exec (.creditReturnIndication .rs byte) s = .next { t with rsWire := t.rsWire ++ [.restart] })

/-! ### The Tick Generator, expiry and lapse -/

/-- TICK_EVENT: with the run flag set and the counter at 0, the count rises, pending values are adopted and the
counter is loaded again. With the new count every entry that is due is reported RESPONSE_TIMEOUT and terminated with
TIMEOUT into QUARANTINED, in ascending order of pool tag: the FAILs that the unordered ones owe enter the Traffic
Queue or the Answer Backlog, the elements of the ordered ones fail in place, and the counts fall. Then every quarantine
that is due ends, and no other tag changes. The free places are given out, and a waiting head is issued if that brought
what it lacked. Nothing happens at any other time. `distribute` is assumption 8 and `issueAfter` is assumption 9. -/
def Obligations.TickEventExpiresAndLapses : Prop :=
  ∀ s : State, s.quarantineLimit ≠ 0#12 →
    (s.tick.run = false ∨ s.tick.downCounter ≠ 0#16 → exec .tickEvent s = .next s) ∧
    (s.tick.run = true → s.tick.downCounter = 0#16 →
      let now := s.tick.count + 1#16
      let due := fun r : ActiveRec => decide (r.limit.toNat ≤ (now - r.issueTick).toNat)
      let s1 := { s with
        tick := { prescale := (s.tick.pendingPeriod.getD (s.tick.prescale, s.tick.reload)).1
                  reload := (s.tick.pendingPeriod.getD (s.tick.prescale, s.tick.reload)).2
                  pendingPeriod := none
                  downCounter := (s.tick.pendingPeriod.getD (s.tick.prescale, s.tick.reload)).2
                  run := true, count := now, division := 0 } }
      ∃ u v t : State,
        Terminated due .timeout s1.abandoned (timeoutsReported (s.entriesOf due) s1) u ∧
        u.opState =
          (if s.opState = .quiescing ∧ s.entriesOf due ≠ [] ∧ u.entriesOf (fun _ => true) = [] then .quiesced
          else s.opState) ∧
        v = { u with tags := v.tags } ∧
        (∀ g, (∀ q, getAt s.tags g ≠ .quarantined q) → getAt v.tags g = getAt u.tags g) ∧
        (∀ g q, getAt s.tags g = .quarantined q →
          getAt v.tags g =
            if q.limit.toNat ≤ (now - q.startTick).toNat then .free else .quarantined q) ∧
        t = distribute s v ∧ exec .tickEvent s = .next (issueAfter s t) ∧
        t.tick = s1.tick ∧
        (∀ g r, getAt s.tags g = .active r → r.limit.toNat ≤ (now - r.issueTick).toNat →
          getAt t.tags g = .quarantined
            { source := r.source, tag := r.tag, kind := r.kind, startTick := now, limit := s.quarantineLimit }) ∧
        (∀ g r, getAt s.tags g = .active r → (now - r.issueTick).toNat < r.limit.toNat →
          getAt t.tags g = .active r) ∧
        (∀ g q, getAt s.tags g = .quarantined q →
          getAt t.tags g =
            if q.limit.toNat ≤ (now - q.startTick).toNat then .free else .quarantined q) ∧
        (∀ g, getAt s.tags g = .free → getAt t.tags g = .free) ∧ SameSettings s t)

/-- EXPIRY of one tag whose entry has reached its limit by the present count: RESPONSE_TIMEOUT with the record's
identification, then the termination with TIMEOUT into QUARANTINED. An unordered entry's FAIL enters the Traffic
Queue or the Answer Backlog; an absorbed one owes none; an ordered entry's element fails in place. Where that was the
delivering head, the RQ link is UP and there is room, its FAIL enters in the same step; behind another head, with
stored segments, without room or with the link DOWN it waits for its drain step. A tag that is not due is left alone.
That EXPIRY is a step of its own on a tag due by the present count is assumption 17; `issueAfter` is assumption 9; the
placing in the same step and the pointer's move are assumptions 8 and 16. -/
def Obligations.ExpiryAnswersTimeout : Prop :=
  ∀ (g : PoolTag) (s : State),
    ((∀ r, getAt s.tags g ≠ .active r) → exec (.expiry g) s = .next s) ∧
    (∀ r, getAt s.tags g = .active r → (s.tick.count - r.issueTick).toNat < r.limit.toNat →
      exec (.expiry g) s = .next s) ∧
    (∀ r, getAt s.tags g = .active r → r.limit.toNat ≤ (s.tick.count - r.issueTick).toNat →
      let u := report .responseTimeout (some .rs) (entryIdent r.source r.tag r.kind g) s
      (r.absorbed = true → exec (.expiry g) s = .next (withdrawn g (s.abandoned r) u)) ∧
      (r.absorbed = false → r.link = none → s.backlog = [] → s.trafficQueue.length < 32 →
        exec (.expiry g) s = .next
          (withdrawn g (s.abandoned r) (counted r.source (· - 1) (queued r.source r.tag (.fail .timeout) u)))) ∧
      (r.absorbed = false → r.link = none → s.backlog ≠ [] ∨ 32 ≤ s.trafficQueue.length →
        exec (.expiry g) s = .next
          (withdrawn g (s.abandoned r) (counted r.source (· - 1)
            { u with backlog := s.backlog ++ [{ source := r.source, tag := r.tag, status := .timeout }] }))) ∧
      (∀ l e, r.absorbed = false → r.link = some l → getAt s.slots l = some e →
        (∀ m rest, getAt s.lists m ≠ l :: rest) ∨ 32 ≤ s.trafficQueue.length ∨ e.segs ≠ [] ∨
            s.rqLink = .down →
        exec (.expiry g) s = .next (issueAfter s
          (withdrawn g (s.abandoned r) (withElement l (failedElement e .timeout) u)))) ∧
      (∀ l e rest, OrderSound s → r.absorbed = false → r.link = some l → getAt s.slots l = some e →
        getAt s.lists r.source = l :: rest → e.segs = [] → s.rqLink = .up → s.trafficQueue.length < 32 →
        exec (.expiry g) s = .next (issueAfter s
          { released r.source (some l) (queued r.source r.tag (.fail .timeout)
              (withdrawn g (s.abandoned r) u)) with
            roomPointer := Fin.ofNat 36 (r.source.val + 5) })))

/-- LAPSE of one tag whose quarantine has run its limit by the present count: it becomes FREE, nothing else changes,
and a head that waited for a tag is issued. A tag that is not due is left alone. That LAPSE is a step of its own on a
tag due by the present count is assumption 17; `issueAfter` is assumption 9. -/
def Obligations.LapseFreesTheTag : Prop :=
  ∀ (g : PoolTag) (s : State),
    ((∀ q, getAt s.tags g ≠ .quarantined q) → exec (.lapse g) s = .next s) ∧
    (∀ q, getAt s.tags g = .quarantined q → (s.tick.count - q.startTick).toNat < q.limit.toNat →
      exec (.lapse g) s = .next s) ∧
    (∀ q, getAt s.tags g = .quarantined q → q.limit.toNat ≤ (s.tick.count - q.startTick).toNat →
      exec (.lapse g) s = .next (issueAfter s { s with tags := putAt s.tags g .free }))

/-! ### Dispatch -/

/-- CLASSIFICATION of a NEW head in RUN, refused by the first of the six stages that fails: the error of that
stage is raised, a WRITE leaves and a READ or CWRITE is to be answered with the stage's status. -/
def Obligations.ClassificationRefusals : Prop :=
  ∀ (w : Waiting) (rest : List Waiting) (s : State),
    s.forwardQueue = w :: rest → s.headPhase = .new → w.mark = false → s.opState = .run →
    let e := getAt s.sources w.req.source
    let a := w.req.address.toNat
    let last := a + 4 * w.req.length - 1
    (e.valid = false ∨ e.quota = 0#5 →
      exec .classification s = .next (refusedHead w rest .unknownSource .unsupported s)) ∧
    (e.valid = true → e.quota ≠ 0#5 →
      (∀ i, ¬((s.window i).valid = true ∧ Covers (s.window i) a)) →
      exec .classification s = .next (refusedHead w rest .noWindow .unsupported s)) ∧
    (∀ i, e.valid = true → e.quota ≠ 0#5 → Chosen s a i →
      (¬Covers (s.window i) last ∨ 0xFFFFFF0000 ≤ last →
        exec .classification s = .next (refusedHead w rest .accessDenied .denied s)) ∧
      (Covers (s.window i) last → last < 0xFFFFFF0000 →
        ((s.window i).groups.getLsbD e.group.val = false →
          exec .classification s = .next (refusedHead w rest .accessDenied .denied s)) ∧
        ((s.window i).groups.getLsbD e.group.val = true →
          ((s.window i).access = .readOnly ∧ w.req.kind ≠ .read) ∨
            ((s.window i).access = .writeOnly ∧ w.req.kind = .read) →
          exec .classification s = .next (refusedHead w rest .accessDenied .denied s)) ∧
        ((s.window i).groups.getLsbD e.group.val = true →
          ((s.window i).access = .readOnly → w.req.kind = .read) →
          ((s.window i).access = .writeOnly → w.req.kind ≠ .read) →
          w.req.kind ≠ .write → e.quota.toNat ≤ e.count →
          exec .classification s = .next (refusedHead w rest .quotaRetry .retry s))))

/-- CLASSIFICATION of a NEW head in RUN that passes all six stages: with the RS port UP the head is CLASSIFIED and
holds the result of R27; with the RS port DOWN it is answered LINK_DOWN or discarded. -/
def Obligations.ClassificationPasses : Prop :=
  ∀ (w : Waiting) (rest : List Waiting) (i : Fin 16) (s : State),
    s.forwardQueue = w :: rest → s.headPhase = .new → w.mark = false → s.opState = .run →
    let e := getAt s.sources w.req.source
    let last := w.req.address.toNat + 4 * w.req.length - 1
    e.valid = true → e.quota ≠ 0#5 → Chosen s w.req.address.toNat i →
    Covers (s.window i) last → last < 0xFFFFFF0000 → (s.window i).groups.getLsbD e.group.val = true →
    ((s.window i).access = .readOnly → w.req.kind = .read) →
    ((s.window i).access = .writeOnly → w.req.kind ≠ .read) →
    (w.req.kind = .write ∨ e.count < e.quota.toNat) →
    let cls : IssueClass :=
      if w.req.kind ≠ .write then .nonPosted else if (s.window i).absorb then .absorbed else .plainPosted
    let ordered : Bool :=
      decide (w.req.kind ≠ .write ∧ (e.order = .all ∨ (e.order = .flagged ∧ w.req.ordered = true)))
    let c : Classified :=
      { cls := cls
        window := i
        bank := s.activeBank
        base := (s.window i).base
        transBase := (s.window i).transBase
        timeoutClass := if cls = .plainPosted then 0 else w.req.override.getD (s.window i).cls
        ordered := ordered
        reservation := if ordered = true ∧ w.req.kind = .read then w.req.length else 0 }
    (s.rsLink = .up → exec .classification s = .next { s with headPhase := .classified c }) ∧
    (s.rsLink = .down → exec .classification s = .next (strandedHead w rest s))

/-- What CLASSIFICATION does with a head that it does not classify: a marked head is to be answered HALTED; a NEW or
CLASSIFIED one waits outside RUN; a CLASSIFIED one in RUN waits while the RS port is UP and is answered LINK_DOWN
or discarded while it is DOWN; an ANSWERING one waits for its place. That CLASSIFICATION is the step that moves a marked
head is assumption 21. -/
def Obligations.HeadsNotClassified : Prop :=
  ∀ s : State,
    (s.forwardQueue = [] → exec .classification s = .next s) ∧
    (∀ w rest, s.forwardQueue = w :: rest →
      (∀ st, s.headPhase = .answering st → exec .classification s = .next s) ∧
      ((∀ st, s.headPhase ≠ .answering st) → w.mark = true →
        exec .classification s = .next { s with headPhase := .answering .halted }) ∧
      (w.mark = false → s.opState ≠ .run → exec .classification s = .next s) ∧
      (∀ c, s.headPhase = .classified c → w.mark = false → s.opState = .run → s.rsLink = .up →
        exec .classification s = .next s) ∧
      (∀ c, HeadSound s → s.headPhase = .classified c → s.opState = .run → s.rsLink = .down →
        exec .classification s = .next (strandedHead w rest s)))

/-- ISSUE of an unordered NON-POSTED or ABSORBED head with a FREE tag and a credit: the lowest FREE tag becomes
ACTIVE with the record of R3, the rewritten request leaves on the RS port, the count of a NON-POSTED request rises,
and the head leaves. -/
def Obligations.IssueUnordered : Prop :=
  ∀ (w : Waiting) (rest : List Waiting) (c : Classified) (g : PoolTag) (s : State),
    s.forwardQueue = w :: rest → s.headPhase = .classified c → w.mark = false → s.opState = .run →
    s.rsLink = .up → 0 < s.rsCredits → s.backlog = [] → w.req.length ≤ 64 → c.cls ≠ .plainPosted →
    getAt s.tags g = .free → (∀ h, h < g → getAt s.tags h ≠ .free) → c.ordered = false →
    ∃ words, SentRequest words (sentRequest s w.req c (BitVec.ofNat 8 g.val)) ∧
      exec .issue s = .next (headGone rest (requestSent words { s with
        tags := putAt s.tags g (.active (issuedRecord s w.req c none))
        sources :=
          if c.cls = .nonPosted then
            putAt s.sources w.req.source
              { getAt s.sources w.req.source with count := (getAt s.sources w.req.source).count + 1 }
          else s.sources }))

/-- ISSUE of an ordered head with a FREE tag, a free element slot, Hold Buffer room and a credit: as for an
unordered one, and the lowest free slot becomes an AWAITING element at the tail of the source's list. -/
def Obligations.IssueOrdered : Prop :=
  ∀ (w : Waiting) (rest : List Waiting) (c : Classified) (g : PoolTag) (l : SlotId) (s : State),
    s.forwardQueue = w :: rest → s.headPhase = .classified c → w.mark = false → s.opState = .run →
    s.rsLink = .up → 0 < s.rsCredits → s.backlog = [] → w.req.length ≤ 64 → c.cls = .nonPosted →
    getAt s.tags g = .free → (∀ h, h < g → getAt s.tags h ≠ .free) → c.ordered = true →
    getAt s.slots l = none → (∀ k, k < l → getAt s.slots k ≠ none) →
    s.reservedWords + c.reservation ≤ 512 →
    ∃ words, SentRequest words (sentRequest s w.req c (BitVec.ofNat 8 g.val)) ∧
      exec .issue s = .next (headGone rest (requestSent words { s with
        tags := putAt s.tags g (.active (issuedRecord s w.req c (some l)))
        slots := putAt s.slots l (some
          { state := .awaiting, tag := w.req.tag, kind := if w.req.kind = .read then .read else .cwrite,
            reservation := c.reservation, segs := [], storedDone := false, link := some g })
        lists := putAt s.lists w.req.source (getAt s.lists w.req.source ++ [l])
        sources := putAt s.sources w.req.source
          { getAt s.sources w.req.source with count := (getAt s.sources w.req.source).count + 1 } }))

/-- ISSUE_PLAIN_POSTED of a PLAIN POSTED head with a credit: the rewritten WRITE leaves under tag 0, the head
leaves, and nothing else is taken or recorded. -/
def Obligations.IssuePlainPosted : Prop :=
  ∀ (w : Waiting) (rest : List Waiting) (c : Classified) (s : State),
    s.forwardQueue = w :: rest → s.headPhase = .classified c → w.mark = false → s.opState = .run →
    s.rsLink = .up → 0 < s.rsCredits → w.req.length ≤ 64 → c.cls = .plainPosted →
    ∃ words, SentRequest words (sentRequest s w.req c 0#8) ∧
      exec .issuePlainPosted s = .next (headGone rest (requestSent words s))

/-- A head is not issued unless it is CLASSIFIED with its mark clear, in RUN, with the RS port UP and every resource
present, and while it waits it holds none of them. -/
def Obligations.IssueWaitsForEveryResource : Prop :=
  ∀ s : State,
    (s.forwardQueue = [] → exec .issue s = .next s ∧ exec .issuePlainPosted s = .next s) ∧
    (∀ w rest, s.forwardQueue = w :: rest →
      ((∀ c, s.headPhase ≠ .classified c) ∨ w.mark = true ∨ s.opState ≠ .run ∨ s.rsLink = .down ∨
          s.rsCredits = 0 →
        exec .issue s = .next s ∧ exec .issuePlainPosted s = .next s) ∧
      (∀ c, s.headPhase = .classified c →
        (c.cls = .plainPosted → exec .issue s = .next s) ∧
        (c.cls ≠ .plainPosted → exec .issuePlainPosted s = .next s) ∧
        (c.cls ≠ .plainPosted → s.backlog ≠ [] ∨ (∀ g, getAt s.tags g ≠ .free) →
          exec .issue s = .next s) ∧
        (c.cls ≠ .plainPosted → c.ordered = true →
          (∀ l, getAt s.slots l ≠ none) ∨ 512 < s.reservedWords + c.reservation →
          exec .issue s = .next s)))

/-- The end of a step that may bring a waiting head its last missing resource, `issueAfter`: a head that was CLASSIFIED
and could not be issued before the step is issued in it when it now can be; no other head is. That the step does
this, and not an ISSUE of its own, is the model's reading of R37 (assumption 9). That what the issue sends follows what
the step has sent is assumption 13. -/
def Obligations.ReleasedResourceIssuesHead : Prop :=
  ∀ s u : State,
    ((∀ c, s.headPhase ≠ .classified c) → issueAfter s u = u) ∧
    ((∀ c, u.headPhase ≠ .classified c) → issueAfter s u = u) ∧
    (exec .issue s ≠ .next s ∨ exec .issuePlainPosted s ≠ .next s → issueAfter s u = u) ∧
    (∀ c, s.forwardQueue ≠ [] → s.headPhase = .classified c → u.headPhase = .classified c →
      exec .issue s = .next s → exec .issuePlainPosted s = .next s →
      exec (if c.cls = .plainPosted then .issuePlainPosted else .issue) u = .next (issueAfter s u))

/-- ANSWER_PLACEMENT, BACKLOG_ENTRY and MALFORMED_ANSWER_ENTRY place the FAIL of an ANSWERING head, of the oldest
backlog answer and of the oldest malformed request when the Traffic Queue has room; an answer that has no room, or
is not there, leaves the state as it is. `issueAfter` is assumption 9. -/
def Obligations.WaitingAnswersEnterTheTrafficQueue : Prop :=
  ∀ s : State,
    (∀ w rest st, s.forwardQueue = w :: rest → s.headPhase = .answering st → s.trafficQueue.length < 32 →
      exec .answerPlacement s = .next (headGone rest (queued w.req.source w.req.tag (.fail st) s))) ∧
    (32 ≤ s.trafficQueue.length ∨ s.forwardQueue = [] ∨ (∀ st, s.headPhase ≠ .answering st) →
      exec .answerPlacement s = .next s) ∧
    (∀ a rest, s.backlog = a :: rest → s.trafficQueue.length < 32 →
      exec .backlogEntry s =
        .next (issueAfter s (queued a.source a.tag (.fail a.status) { s with backlog := rest }))) ∧
    (32 ≤ s.trafficQueue.length ∨ s.backlog = [] → exec .backlogEntry s = .next s) ∧
    (∀ a rest, s.malformedList = a :: rest → s.trafficQueue.length < 32 →
      let u := queued a.dest a.tag (.fail .malformed) { s with malformedList := rest }
      exec .malformedAnswerEntry s = .next { u with rqWire := u.rqSent (returnByte a.pool) 1 }) ∧
    (32 ≤ s.trafficQueue.length ∨ s.malformedList = [] → exec .malformedAnswerEntry s = .next s)

/-! ### The Response Matcher and return ordering -/

/-- R69: a packet under a FREE tag or a tag of 64 or above. Nothing but the error and the packet's own slot
changes. -/
def Obligations.UnexpectedResponse : Prop :=
  ∀ (p : Arrived) (rest : List Arrived) (s : State), s.ingress = p :: rest →
    (64 ≤ p.tag.toNat →
      exec .matcherTake s =
        .next (report .unexpectedResponse (some .rs) Ident.none (takenPacket rest s))) ∧
    (∀ g : PoolTag, g.val = p.tag.toNat → getAt s.tags g = .free →
      exec .matcherTake s =
        .next (report .unexpectedResponse (some .rs) { Ident.none with pool := some g } (takenPacket rest s)))

/-- R70: a packet under a QUARANTINED tag. A final one frees the tag; a segment that is not final leaves the record
as it is. `issueAfter` is assumption 9. -/
def Obligations.LateResponse : Prop :=
  ∀ (p : Arrived) (rest : List Arrived) (g : PoolTag) (q : QuarRec) (s : State),
    s.ingress = p :: rest → g.val = p.tag.toNat → getAt s.tags g = .quarantined q →
    let u := report .lateResponse (some .rs) (entryIdent q.source q.tag q.kind g) (takenPacket rest s)
    (p.kind = .data → p.last = false → exec .matcherTake s = .next u) ∧
    (p.kind ≠ .data ∨ p.last = true →
      exec .matcherTake s = .next (issueAfter s { u with tags := putAt s.tags g .free }))

/-- An inconsistent packet raises RESPONSE_MISMATCH and its entry is terminated with MISMATCH into QUARANTINED, none
of its data kept: an unordered entry's FAIL enters the Traffic Queue or the Answer Backlog, an absorbed one owes
none, and an ordered entry's element fails in place. Where that was the delivering head, the RQ link is UP and there is
room, its FAIL enters in the same step; behind another head, with stored segments, without room or with the link DOWN
it waits for its drain step. `issueAfter` is assumption 9; the placing in the same step and the pointer's move are
assumptions 8 and 16. -/
def Obligations.MismatchTerminatesTheEntry : Prop :=
  ∀ (p : Arrived) (rest : List Arrived) (g : PoolTag) (r : ActiveRec) (s : State),
    s.ingress = p :: rest → g.val = p.tag.toNat → getAt s.tags g = .active r → Inconsistent p r →
    let u := report .responseMismatch (some .rs) (entryIdent r.source r.tag r.kind g) (takenPacket rest s)
    (r.absorbed = true → exec .matcherTake s = .next (withdrawn g (s.abandoned r) u)) ∧
    (r.absorbed = false → r.link = none → s.backlog = [] → s.trafficQueue.length < 32 →
      exec .matcherTake s = .next
        (withdrawn g (s.abandoned r) (counted r.source (· - 1) (queued r.source r.tag (.fail .mismatch) u)))) ∧
    (r.absorbed = false → r.link = none → s.backlog ≠ [] ∨ 32 ≤ s.trafficQueue.length →
      exec .matcherTake s = .next
        (withdrawn g (s.abandoned r) (counted r.source (· - 1)
          { u with backlog := s.backlog ++ [{ source := r.source, tag := r.tag, status := .mismatch }] }))) ∧
    (∀ l e, r.absorbed = false → r.link = some l → getAt s.slots l = some e →
      (∀ m more, getAt s.lists m ≠ l :: more) ∨ 32 ≤ s.trafficQueue.length ∨ e.segs ≠ [] ∨ s.rqLink = .down →
      exec .matcherTake s = .next (issueAfter s
        (withdrawn g (s.abandoned r) (withElement l (failedElement e .mismatch) u)))) ∧
    (∀ l e more, OrderSound s → r.absorbed = false → r.link = some l → getAt s.slots l = some e →
      getAt s.lists r.source = l :: more → e.segs = [] → s.rqLink = .up → s.trafficQueue.length < 32 →
      exec .matcherTake s = .next (issueAfter s
        { released r.source (some l) (queued r.source r.tag (.fail .mismatch)
            (withdrawn g (s.abandoned r) u)) with
          roomPointer := Fin.ofNat 36 (r.source.val + 5) }))

/-- A consistent DATA segment that is forwarded: it waits while the Traffic Queue is full; with room it enters with
the request's source and tag, words received rise and the delivered flag is set, and with the last flag the entry
completes. Poison is reported and carried on. `issueAfter` is assumption 9. -/
def Obligations.DataIsForwarded : Prop :=
  ∀ (p : Arrived) (rest : List Arrived) (g : PoolTag) (r : ActiveRec) (s : State),
    s.ingress = p :: rest → g.val = p.tag.toNat → getAt s.tags g = .active r → p.kind = .data →
    ¬Inconsistent p r → r.absorbed = false → Forwarded s r →
    let u :=
      if p.poison then
        report .poisonedData (some .rs) (entryIdent r.source r.tag r.kind g) (takenPacket rest s)
      else takenPacket rest s
    let v := queued r.source r.tag (.data { words := p.data, last := p.last, poison := p.poison }) u
    (32 ≤ s.trafficQueue.length → exec .matcherTake s = .next s) ∧
    (s.trafficQueue.length < 32 → p.last = false →
      exec .matcherTake s = .next { v with
        tags := putAt s.tags g
          (.active { r with received := r.received + p.data.length, delivered := true }) }) ∧
    (s.trafficQueue.length < 32 → p.last = true →
      exec .matcherTake s = .next (issueAfter s (withdrawn g .free (released r.source r.link v))))

/-- A consistent DATA segment of an ordered entry that is not the delivering head is stored behind the element's
segments, whole and without Traffic Queue room; with the last flag the entry completes and the element becomes
COMPLETE. `issueAfter` is assumption 9. -/
def Obligations.DataIsStored : Prop :=
  ∀ (p : Arrived) (rest : List Arrived) (g : PoolTag) (r : ActiveRec) (l : SlotId) (e : Element) (s : State),
    s.ingress = p :: rest → g.val = p.tag.toNat → getAt s.tags g = .active r → p.kind = .data →
    ¬Inconsistent p r → r.absorbed = false → ¬Forwarded s r → r.link = some l → getAt s.slots l = some e →
    let u :=
      if p.poison then
        report .poisonedData (some .rs) (entryIdent r.source r.tag r.kind g) (takenPacket rest s)
      else takenPacket rest s
    let segs := e.segs ++ [{ words := p.data, last := p.last, poison := p.poison }]
    (p.last = false →
      exec .matcherTake s = .next (withElement l { e with segs := segs } { u with
        tags := putAt s.tags g (.active { r with received := r.received + p.data.length }) })) ∧
    (p.last = true →
      exec .matcherTake s = .next (issueAfter s
        (withdrawn g .free (withElement l { e with segs := segs, state := .complete, link := none } u))))

/-- A consistent DONE or FAIL for an entry that is not absorbed completes it and frees its tag. Forwarded, it waits
for room, enters the Traffic Queue, and the count falls and the element is removed. Not forwarded, a DONE makes the
element COMPLETE and a FAIL makes it FAILED, its segments discarded. `issueAfter` is assumption 9. -/
def Obligations.DoneAndFailCompleteTheEntry : Prop :=
  ∀ (p : Arrived) (rest : List Arrived) (g : PoolTag) (r : ActiveRec) (b : Body) (s : State),
    s.ingress = p :: rest → g.val = p.tag.toNat → getAt s.tags g = .active r → ¬Inconsistent p r →
    r.absorbed = false →
    (p.kind = .done ∧ b = .done) ∨ (p.kind = .fail ∧ p.status = 1#4 ∧ b = .fail .unsupported) ∨
      (p.kind = .fail ∧ p.status = 5#4 ∧ b = .fail .abort) →
    (Forwarded s r → 32 ≤ s.trafficQueue.length → exec .matcherTake s = .next s) ∧
    (Forwarded s r → s.trafficQueue.length < 32 →
      exec .matcherTake s = .next (issueAfter s (withdrawn g .free
        (released r.source r.link (queued r.source r.tag b (takenPacket rest s)))))) ∧
    (∀ l e, ¬Forwarded s r → r.link = some l → getAt s.slots l = some e → b = .done →
      exec .matcherTake s = .next (issueAfter s (withdrawn g .free
        (withElement l { e with state := .complete, storedDone := true, link := none }
          (takenPacket rest s))))) ∧
    (∀ l e st, ¬Forwarded s r → r.link = some l → getAt s.slots l = some e → b = .fail st →
      exec .matcherTake s = .next (issueAfter s (withdrawn g .free
        (withElement l (failedElement e st) (takenPacket rest s)))))

/-- R78 and R81: a DONE and a permitted FAIL for an absorbed entry free its tag and send nothing; the FAIL raises
ABSORBED_WRITE_FAILED. `issueAfter` is assumption 9. -/
def Obligations.AbsorbedEntryCompletes : Prop :=
  ∀ (p : Arrived) (rest : List Arrived) (g : PoolTag) (r : ActiveRec) (s : State),
    s.ingress = p :: rest → g.val = p.tag.toNat → getAt s.tags g = .active r → ¬Inconsistent p r →
    r.absorbed = true →
    (p.kind = .done →
      exec .matcherTake s = .next (issueAfter s (withdrawn g .free (takenPacket rest s)))) ∧
    (p.kind = .fail →
      exec .matcherTake s = .next (issueAfter s (withdrawn g .free
        (report .absorbedWriteFailed (some .rs) (entryIdent r.source r.tag r.kind g)
          (takenPacket rest s)))))

/-- DRAIN_STEP of source `n`: with the RQ link UP and room, the head sends its oldest stored segment, else its DONE
or its FAIL, and is removed with its final response; a delivering head, a full Traffic Queue or a DOWN link makes it
wait. That it waits while the RQ link is DOWN is read from R94 (assumption 19); `issueAfter` is assumption 9. -/
def Obligations.DrainStepSendsOnePacket : Prop :=
  ∀ (n : SourceId) (s : State),
    (getAt s.lists n = [] → exec (.drainStep n) s = .next s) ∧
    (∀ l rest e, getAt s.lists n = l :: rest → getAt s.slots l = some e →
      (s.rqLink = .down ∨ 32 ≤ s.trafficQueue.length ∨ (e.state = .awaiting ∧ e.segs = []) →
        exec (.drainStep n) s = .next s) ∧
      (s.rqLink = .up → s.trafficQueue.length < 32 →
        (∀ x more, e.segs = x :: more → more ≠ [] ∨ e.state ≠ .complete ∨ e.storedDone = true →
          exec (.drainStep n) s = .next { queued n e.tag (.data x) s with
            slots := putAt s.slots l (some { e with segs := more })
            tags := match e.link with
              | none => s.tags
              | some g =>
                match getAt s.tags g with
                | .active r => putAt s.tags g (.active { r with delivered := true })
                | _ => s.tags }) ∧
        (∀ x, e.segs = [x] → e.state = .complete → e.storedDone = false →
          exec (.drainStep n) s =
            .next (issueAfter s (released n (some l) (queued n e.tag (.data x) s)))) ∧
        (e.segs = [] → e.state = .complete → e.storedDone = true →
          exec (.drainStep n) s = .next (issueAfter s (released n (some l) (queued n e.tag .done s)))) ∧
        (∀ st, e.segs = [] → e.state = .failed st →
          exec (.drainStep n) s =
            .next (issueAfter s (released n (some l) (queued n e.tag (.fail st) s))))))

/-! ### Transmission and room -/

/-- TRANSMIT_STEP needs the RQ port UP and a credit. It sends a filled alert slot, FATAL before NONFATAL before
ADVISORY, else the earlier-filled Management Response Slot, else the head of the Traffic Queue. That the previous
packet has always left is the model's choice (assumption 15). -/
def Obligations.TransmitStepChoosesOnePacket : Prop :=
  ∀ s : State,
    (s.rqLink = .down ∨ s.rqCredits = 0 → exec .transmitStep s = .next s) ∧
    (s.rqLink = .up → 0 < s.rqCredits →
      (∀ a, s.alert.fatal.slot = some a →
        exec .transmitStep s = .next (responseSent (packAlert a) { s with
          alert := { s.alert with fatal := { s.alert.fatal with slot := none } } })) ∧
      (∀ a, s.alert.fatal.slot = none → s.alert.nonfatal.slot = some a →
        exec .transmitStep s = .next (responseSent (packAlert a) { s with
          alert := { s.alert with nonfatal := { s.alert.nonfatal with slot := none } } })) ∧
      (∀ a, s.alert.fatal.slot = none → s.alert.nonfatal.slot = none → s.alert.advisory.slot = some a →
        exec .transmitStep s = .next (responseSent (packAlert a) { s with
          alert := { s.alert with advisory := { s.alert.advisory with slot := none } } })) ∧
      (s.alert.fatal.slot = none → s.alert.nonfatal.slot = none → s.alert.advisory.slot = none →
        (∀ r rest, s.mgmtSlots = r :: rest →
          exec .transmitStep s = .next (responseSent (packResponse r) { s with mgmtSlots := rest })) ∧
        (∀ r rest, s.mgmtSlots = [] → s.trafficQueue = r :: rest → rest.length < 31 →
          exec .transmitStep s = .next (responseSent (packResponse r) { s with trafficQueue := rest })) ∧
        (s.mgmtSlots = [] → s.trafficQueue = [] → exec .transmitStep s = .next s)))

/-- A place freed in a full Traffic Queue goes to the first waiting producer found going round the ring from the
pointer, which acts as in its own step, and the pointer moves to the position after it. `Waits` says which producers
wait. Places still free after a step go to the producers, the Matcher's apart, that the step made ready, each once,
going round the ring from the pointer, as long as there is room (assumption 8). `issueAfter` is assumption 9. The order
of the packet and the indications within the step is assumption 13. -/
def Obligations.FreedPlaceGoesRoundTheRing : Prop :=
  (∀ (r : Response) (rest : List Response) (s : State),
    s.rqLink = .up → 0 < s.rqCredits → s.alert.fatal.slot = none → s.alert.nonfatal.slot = none →
    s.alert.advisory.slot = none → s.mgmtSlots = [] → s.trafficQueue = r :: rest → rest.length = 31 →
    (∀ c, s.headPhase ≠ .classified c) →
    let u := responseSent (packResponse r) { s with trafficQueue := rest }
    ((∀ k, u.ready (Producer.at k) = false) → exec .transmitStep s = .next u) ∧
    (∀ d : Fin 36, (∀ k, k < d → u.ready (Producer.at (s.roomPointer + k)) = false) →
      u.ready (Producer.at (s.roomPointer + d)) = true →
      ∃ t, exec (ringCommand (s.roomPointer + d)) u = .next t ∧
        exec .transmitStep s = .next { t with roomPointer := s.roomPointer + d + 1 })) ∧
  (∀ (r : Response) (rest : List Response) (s : State),
    s.rqLink = .up → 0 < s.rqCredits → s.alert.fatal.slot = none → s.alert.nonfatal.slot = none →
    s.alert.advisory.slot = none → s.mgmtSlots = [] → s.trafficQueue = r :: rest → rest.length = 31 →
    let u := responseSent (packResponse r) { s with trafficQueue := rest }
    ((∀ k, ¬Waits u k) → exec .transmitStep s = .next (issueAfter s u)) ∧
    (∀ d : Fin 36, (∀ k, k < d → ¬Waits u (s.roomPointer + k)) → Waits u (s.roomPointer + d) →
      s.roomPointer + d ≠ 3 →
      ∃ t, Placed (s.roomPointer + d) u t ∧
        exec .transmitStep s = .next (issueAfter s { t with roomPointer := s.roomPointer + d + 1 }))) ∧
  (∀ (s : State) (k : Fin 36), s.ready (Producer.at k) = true ↔ Waits s k) ∧
  (∀ (before after : State) (k : Fin 36),
    madeReady before after k = true ↔ k ≠ 3 ∧ Waits after k ∧ ¬Waits before k) ∧
  (∀ before after : State,
    ServedInTurn (((List.finRange 36).map (after.roomPointer + ·)).filter (madeReady before after)) after
      (distribute before after)) ∧
  (∀ before after : State,
    ((∀ k, madeReady before after k = false) ∨ 32 ≤ after.trafficQueue.length →
      distribute before after = after) ∧
    (∀ k, (∀ j, madeReady before after j = true ↔ j = k) → after.trafficQueue.length < 32 →
      (∀ c, after.headPhase ≠ .classified c) →
      ∃ t, exec (ringCommand k) after = .next t ∧ distribute before after = { t with roomPointer := k + 1 }))

/-! ### The operating state -/

/-- HALT takes a waiting halt request. In HALTED it changes nothing; from any other state it enters HALTED with the
halt teardown: every entry terminated with HALTED into QUARANTINED, every posted WRITE of the Forward Queue removed
with its credit returned, every other request marked, and a head that had been taken up to be answered HALTED. The
places then free are given out. That HALT acts only on a waiting request is assumption 10, and that a
NEW head stays NEW is assumption 21. `distribute` is
assumption 8. -/
def Obligations.HaltTeardown : Prop :=
  ∀ s : State,
    (s.haltRequested = false → exec .halt s = .next s) ∧
    (s.haltRequested = true → s.opState = .halted →
      exec .halt s = .next { s with haltRequested := false }) ∧
    (s.haltRequested = true → s.opState ≠ .halted → ∃ u,
      AllTerminated .halted s.abandoned { s with haltRequested := false, opState := .halted } u ∧
      u.opState = .halted ∧
      exec .halt s = .next (distribute s { u with
        forwardQueue :=
          (s.forwardQueue.filter fun w => decide (w.req.kind ≠ .write)).map fun w => { w with mark := true }
        headPhase := match s.forwardQueue, s.headPhase with
          | [], _ => .new
          | _ :: _, .new => .new
          | w :: _, _ => if w.req.kind = .write then .new else .answering .halted
        rqWire := u.rqSent 0x85#8 (s.forwardQueue.countP fun w => decide (w.req.kind = .write)) }))

/-! ### The commands of the command word -/

/-- SWAP_BANKS exchanges the roles of the banks and raises the swap count; COPY_ACTIVE_TO_STAGING overwrites the
STAGING bank with the ACTIVE one. Either is answered DONE, shown in the command word, and changes nothing else. -/
def Obligations.SwapAndCopyBanks : Prop :=
  ∀ (r : Request) (rest : List Request) (v : Word) (s : State), WriteTaken s r rest 4 v →
    (v.toNat / 2 ^ 24 = 1 →
      exec .swapBanks s = .next (answered r rest .done (shown v false
        { s with activeBank := 1 - s.activeBank, swapCount := s.swapCount + 1#16 }))) ∧
    (v.toNat / 2 ^ 24 = 2 →
      exec .copyActiveToStaging s = .next (answered r rest .done (shown v false
        { s with banks := putAt s.banks (1 - s.activeBank) (getAt s.banks s.activeBank) })))

/-- QUIESCE and RESUME by the operating state. QUIESCE in RUN reaches QUIESCED when no tag is ACTIVE and QUIESCING
otherwise, and is refused in HALTED. RESUME reaches RUN, but is refused in HALTED while the fatal condition holds;
a CLASSIFIED head is then handled at once, issued or, with the RS port DOWN, answered or discarded. `issueAfter` is
assumption 9; that a NEW head is left to the CLASSIFICATION step that follows is assumption 22. The order of the
indications within the step is assumption 13. -/
def Obligations.QuiesceAndResume : Prop :=
  ∀ (r : Request) (rest : List Request) (v : Word) (s : State), WriteTaken s r rest 4 v →
    let fatal := ∃ k, (s.err.item k).status = true ∧ (s.err.item k).mask = false ∧
      (s.err.item k).severity = .fatal
    (v.toNat / 2 ^ 24 = 3 →
      (s.opState = .run →
        exec .quiesce s = .next (answered r rest .done (shown v false
          { s with opState := if s.activeTags = 0 then .quiesced else .quiescing }))) ∧
      (s.opState = .quiescing ∨ s.opState = .quiesced →
        exec .quiesce s = .next (answered r rest .done (shown v false s))) ∧
      (s.opState = .halted →
        exec .quiesce s = .next (refusedWith r rest .denied (shown v true s)))) ∧
    (v.toNat / 2 ^ 24 = 4 →
      (s.opState = .run → exec .resume s = .next (answered r rest .done (shown v false s))) ∧
      (s.opState = .halted → fatal →
        exec .resume s = .next (refusedWith r rest .denied (shown v true s))) ∧
      (s.opState ≠ .run → (s.opState = .halted → ¬fatal) →
        (s.rsLink = .up ∨ (∀ c, s.headPhase ≠ .classified c) →
          exec .resume s =
            .next (issueAfter s (answered r rest .done (shown v false { s with opState := .run })))) ∧
        (∀ w more c, HeadSound s → s.forwardQueue = w :: more → s.headPhase = .classified c →
          s.rsLink = .down →
          exec .resume s = .next (answered r rest .done (shown v false
            (strandedHead w more { s with opState := .run }))))))

/-- FLUSH_SOURCE(n) removes source `n`'s requests, entries, elements and backlog answers without answer or error,
quarantines the entries' tags, sets its count to 0 and is answered DONE; an argument above 31 is refused.
`issueAfter` is assumption 9. The order of the indications within the step is assumption 13. -/
def Obligations.FlushSourceSilencesOneSource : Prop :=
  ∀ (r : Request) (rest : List Request) (v : Word) (s : State), OrderSound s → WriteTaken s r rest 4 v →
    v.toNat / 2 ^ 24 = 5 →
    (32 ≤ v.toNat / 2 ^ 16 % 256 →
      exec .flushSource s = .next (refusedWith r rest .denied (shown v true s))) ∧
    (∀ n : SourceId, n.val = v.toNat / 2 ^ 16 % 256 →
      ∃ (tags : Table TagState 64) (slots : Table (Option Element) 64),
        (∀ g, getAt tags g = match getAt s.tags g with
          | .active x => if x.absorbed = false ∧ x.source = n then s.abandoned x else .active x
          | x => x) ∧
        (∀ l, l ∈ getAt s.lists n → getAt slots l = none) ∧
        (∀ l, l ∉ getAt s.lists n → getAt slots l = getAt s.slots l) ∧
        exec .flushSource s = .next (issueAfter s (answered r rest .done (shown v false { s with
          forwardQueue := s.forwardQueue.filter fun w => decide (w.req.source ≠ n)
          headPhase := match s.forwardQueue with
            | [] => .new
            | w :: _ => if w.req.source = n then .new else s.headPhase
          tags := tags
          slots := slots
          lists := putAt s.lists n []
          sources := putAt s.sources n { getAt s.sources n with count := 0 }
          backlog := s.backlog.filter fun a => decide (a.source ≠ n)
          opState :=
            if s.opState = .quiescing ∧ 0 < s.activeTags ∧ tags.toList.countP TagState.isActive = 0 then
              .quiesced
            else s.opState
          rqWire :=
            s.rqSent 0x85#8 (s.forwardQueue.countP fun w => decide (w.req.source = n)) }))))

/-- SOFT_RESET empties the queues, lists and buffers, frees every tag, sets every count to 0, returns the credits of
the slots it frees, leaves the state QUIESCED and every other item as it stands, and is answered DONE. The order of the
indications within the step is assumption 13. That a waiting halt request stays is assumption 20. -/
def Obligations.SoftResetEmptiesThePart : Prop :=
  ∀ (r : Request) (rest : List Request) (v : Word) (s : State), WriteTaken s r rest 4 v →
    v.toNat / 2 ^ 24 = 6 →
    ∃ sources : Table SourceEntry 32,
      (∀ n, getAt sources n = { getAt s.sources n with count := 0 }) ∧
      exec .softReset s = .next (answered r rest .done (shown v false { s with
        opState := .quiesced, forwardQueue := [], headPhase := .new, backlog := [], sources := sources
        tags := fillTable 64 .free, lists := fillTable 32 [], slots := fillTable 64 none
        ingress := [], trafficQueue := [], malformedList := []
        rqWire :=
          if s.rqLink = .up then
            s.rqWire ++ List.replicate s.forwardQueue.length (.indication 0x85#8)
              ++ s.malformedList.map fun a => .indication (returnByte a.pool)
          else s.rqWire
        rsWire := s.rsSent s.ingress.length }))

/-- ALERT_ACK(class): nothing for an IDLE class; an OUTSTANDING one becomes IDLE with its slot emptied; one with a
pending mark builds a new ALERT from its latest kind when the destination is valid and becomes IDLE when it is not. An
argument that names no class is refused. -/
def Obligations.AlertAckByClassState : Prop :=
  ∀ (r : Request) (rest : List Request) (v : Word) (s : State), WriteTaken s r rest 4 v →
    v.toNat / 2 ^ 24 = 7 →
    let arg := v.toNat / 2 ^ 16 % 256
    (arg = 0 ∨ 3 < arg → exec .alertAck s = .next (refusedWith r rest .denied (shown v true s))) ∧
    (∀ c, (arg = 1 ∧ c = .fatal) ∨ (arg = 2 ∧ c = .nonfatal) ∨ (arg = 3 ∧ c = .advisory) →
      let x := s.alert.cls c
      let off : AlertClass := { x with state := .idle, latest := none, slot := none }
      (x.state = .idle → exec .alertAck s = .next (answered r rest .done (shown v false s))) ∧
      (x.state = .outstanding →
        exec .alertAck s =
          .next (answered r rest .done (shown v false { s with alert := s.alert.setCls c off }))) ∧
      (x.state = .pending → s.alert.destValid = false →
        exec .alertAck s =
          .next (answered r rest .done (shown v false { s with alert := s.alert.setCls c off }))) ∧
      (∀ k, x.state = .pending → s.alert.destValid = true → x.latest = some k →
        let a : Alert :=
          { dest := s.alert.dest, cls := c, kind := k, records := s.err.records.length,
            overflowed := s.err.overflowed }
        exec .alertAck s = .next (answered r rest .done (shown v false
          { s with alert := s.alert.setCls c { x with state := .outstanding, slot := some a } }))))

/-- R147 and R148: POP_RECORD removes the oldest record and is refused on an empty queue; CLEAR_RECORDS removes
every record and clears the overflowed flag. -/
def Obligations.PopAndClearRecords : Prop :=
  ∀ (r : Request) (rest : List Request) (v : Word) (s : State), WriteTaken s r rest 4 v →
    (v.toNat / 2 ^ 24 = 8 →
      (∀ x more, s.err.records = x :: more →
        exec .popRecord s = .next (answered r rest .done (shown v false
          { s with err := { s.err with records := more } }))) ∧
      (s.err.records = [] →
        exec .popRecord s = .next (refusedWith r rest .denied (shown v true s)))) ∧
    (v.toNat / 2 ^ 24 = 9 →
      exec .clearRecords s = .next (answered r rest .done (shown v false
        { s with err := { s.err with records := [], overflowed := false } })))

/-- CLEAR_STATUS: argument 0 clears the status of all twenty kinds, 1 to 20 that of one kind, and an argument above 20
is refused. Nothing else of the Error Unit changes. -/
def Obligations.ClearStatusByArgument : Prop :=
  ∀ (r : Request) (rest : List Request) (v : Word) (s : State), WriteTaken s r rest 4 v →
    v.toNat / 2 ^ 24 = 10 →
    let arg := v.toNat / 2 ^ 16 % 256
    (20 < arg → exec .clearStatus s = .next (refusedWith r rest .denied (shown v true s))) ∧
    (∀ i : Fin 20, arg = i.val + 1 →
      exec .clearStatus s = .next (answered r rest .done (shown v false { s with
        err := { s.err with
          items := putAt s.err.items i { getAt s.err.items i with status := false } } }))) ∧
    (arg = 0 → ∃ items : Table ErrorItem 20,
      (∀ i, getAt items i = { getAt s.err.items i with status := false }) ∧
      exec .clearStatus s = .next (answered r rest .done (shown v false { s with
        err := { s.err with items := items } })))

/-! ### The words software writes -/

/-- A write of a source's configuration word replaces all five fields and keeps the count; a quota above 16 or
order mode code 3 is refused. -/
def Obligations.SourceConfigurationWrites : Prop :=
  ∀ (r : Request) (rest : List Request) (v : Word) (n : SourceId) (s : State),
    WriteTaken s r rest (0x100 + 8 * n.val) v →
    (v.toNat / 16 % 32 ≤ 16 → v.toNat / 2 ^ 16 % 4 ≠ 3 →
      exec .sourceConfigurationWrite s = .next (answered r rest .done { s with
        sources := putAt s.sources n
          { valid := v.getLsbD 0
            group := Fin.ofNat 4 (v.toNat / 2)
            quota := v.extractLsb' 4 5
            permission := v.getLsbD 12
            order :=
              if v.toNat / 2 ^ 16 % 4 = 0 then .none else if v.toNat / 2 ^ 16 % 4 = 1 then .all else .flagged
            count := (getAt s.sources n).count } })) ∧
    (16 < v.toNat / 16 % 32 ∨ v.toNat / 2 ^ 16 % 4 = 3 →
      exec .sourceConfigurationWrite s = .next (refusedWith r rest .denied s))

/-- A write of a word of the STAGING view is accepted when its own value is permitted and both bases are then
multiples of the size, and replaces that word's fields in the bank that is not ACTIVE; else it is refused. -/
def Obligations.StagingWindowWrites : Prop :=
  ∀ (r : Request) (rest : List Request) (v : Word) (i : Fin 16) (k : Fin 4) (s : State),
    WriteTaken s r rest (0x400 + 16 * i.val + 4 * k.val) v →
    let bank := getAt s.banks (1 - s.activeBank)
    (∀ w, StagedWindow (getAt bank i) k v w → AlignedWindow w →
      exec .stagingWindowWrite s = .next (answered r rest .done { s with
        banks := putAt s.banks (1 - s.activeBank) (putAt bank i w) })) ∧
    ((∀ w, StagedWindow (getAt bank i) k v w → ¬AlignedWindow w) →
      exec .stagingWindowWrite s = .next (refusedWith r rest .denied s))

/-- Writes of a timeout class limit, of the quarantine limit, of the tick period and of the tick run word. A limit of 0
and a reload of 0 are refused. A tick period becomes pending and moves nothing in force. -/
def Obligations.LimitAndTickWrites : Prop :=
  ∀ (r : Request) (rest : List Request) (v : Word) (s : State),
    (∀ c : Fin 4, WriteTaken s r rest (0x60 + 4 * c.val) v →
      (v.toNat % 4096 ≠ 0 →
        exec .timeoutClassWrite s = .next (answered r rest .done { s with
          timeoutLimits := putAt s.timeoutLimits c (v.extractLsb' 0 12) })) ∧
      (v.toNat % 4096 = 0 → exec .timeoutClassWrite s = .next (refusedWith r rest .denied s))) ∧
    (WriteTaken s r rest 0x18 v →
      (v.toNat % 4096 ≠ 0 →
        exec .quarantineLimitWrite s =
          .next (answered r rest .done { s with quarantineLimit := v.extractLsb' 0 12 })) ∧
      (v.toNat % 4096 = 0 → exec .quarantineLimitWrite s = .next (refusedWith r rest .denied s))) ∧
    (WriteTaken s r rest 0x1C v →
      (v.toNat / 2 ^ 16 ≠ 0 →
        exec .tickPeriodWrite s = .next (answered r rest .done { s with
          tick := { s.tick with
            pendingPeriod := some (prescaleOf (v.toNat % 4), v.extractLsb' 16 16) } })) ∧
      (v.toNat / 2 ^ 16 = 0 → exec .tickPeriodWrite s = .next (refusedWith r rest .denied s))) ∧
    (WriteTaken s r rest 0x20 v →
      exec .tickRunWrite s = .next (answered r rest .done { s with
        tick := { s.tick with run := v.getLsbD 0 } }))

/-- Writes of the error mask word, of the two severity words (refused when any of the ten codes is 0) and of the
error control word. -/
def Obligations.ErrorWordWrites : Prop :=
  ∀ (r : Request) (rest : List Request) (v : Word) (s : State),
    (WriteTaken s r rest 0x34 v → ∃ items : Table ErrorItem 20,
      (∀ i, getAt items i = { getAt s.err.items i with mask := v.getLsbD (i.val + 1) }) ∧
      exec .errorMaskWrite s =
        .next (answered r rest .done { s with err := { s.err with items := items } })) ∧
    (∀ first : Nat, (first = 0 ∧ WriteTaken s r rest 0x38 v) ∨ (first = 10 ∧ WriteTaken s r rest 0x3C v) →
      ((∃ j : Fin 10, v.toNat / 4 ^ j.val % 4 = 0) →
        exec .errorSeverityWrite s = .next (refusedWith r rest .denied s)) ∧
      ((∀ j : Fin 10, v.toNat / 4 ^ j.val % 4 ≠ 0) → ∃ items : Table ErrorItem 20,
        (∀ i : Fin 20, getAt items i =
          if first ≤ i.val ∧ i.val < first + 10 then
            { getAt s.err.items i with severity := severityOf (v.toNat / 4 ^ (i.val - first) % 4) }
          else getAt s.err.items i) ∧
        exec .errorSeverityWrite s =
          .next (answered r rest .done { s with err := { s.err with items := items } }))) ∧
    (WriteTaken s r rest 0x40 v →
      exec .errorControlWrite s =
        .next (answered r rest .done { s with err := { s.err with haltOnFatal := v.getLsbD 0 } }))

/-- Writes of the alert configuration word, which ends a class it turns off, and of the far source ID, accepted only in
QUIESCED with no tag QUARANTINED. -/
def Obligations.AlertConfigurationAndFarSourceWrites : Prop :=
  ∀ (r : Request) (rest : List Request) (v : Word) (s : State),
    (WriteTaken s r rest 0x58 v →
      exec .alertConfigurationWrite s = .next (answered r rest .done { s with
        alert :=
          { dest := Fin.ofNat 32 v.toNat
            destValid := v.getLsbD 8
            fatal := enabledClass s.alert.fatal (v.getLsbD 16)
            nonfatal := enabledClass s.alert.nonfatal (v.getLsbD 17)
            advisory := enabledClass s.alert.advisory (v.getLsbD 18) } })) ∧
    (WriteTaken s r rest 0x0C v →
      (s.opState = .quiesced → (∀ g q, getAt s.tags g ≠ .quarantined q) →
        exec .farSourceIdWrite s =
          .next (answered r rest .done { s with farSource := Fin.ofNat 32 v.toNat })) ∧
      (s.opState ≠ .quiesced ∨ (∃ g q, getAt s.tags g = .quarantined q) →
        exec .farSourceIdWrite s = .next (refusedWith r rest .denied s)))

/-- MANAGEMENT_WRITE, the row of every other request: a READ is answered with the word as it stands and changes
nothing; a write of a read-only word, the ACTIVE view among them, is refused; so is a command code that names no
command, which the command word then shows. `MgmtWord.offset` says where each word stands, every other offset being
unassigned, and `State.layout` what each holds. -/
def Obligations.ReadsAndReadOnlyWords : Prop :=
  (∀ (r : Request) (rest : List Request) (off : Nat) (v : Word) (s : State),
    (∀ m, Taken s r rest off → r.kind = .read → mgmtWordAt off = some m →
      exec .managementWrite s = .next (answered r rest
        (.data { words := [s.readWord m], last := true, poison := false }) s)) ∧
    (WriteTaken s r rest off v → ReadOnlyOffset off →
      exec .managementWrite s = .next (refusedWith r rest .denied s)) ∧
    (WriteTaken s r rest 4 v → v.toNat / 2 ^ 24 = 0 ∨ 10 < v.toNat / 2 ^ 24 →
      exec .managementWrite s = .next (refusedWith r rest .denied (shown v true s)))) ∧
  (∀ (off : Nat) (m : MgmtWord), off % 4 = 0 → (mgmtWordAt off = some m ↔ off = m.offset)) ∧
  (∀ (s : State) (m : MgmtWord), Bounded s → OrderSound s → RecordsSound s →
    (s.readWord m).toNat = s.layout m)

/-- The taking step of every management row: it takes the oldest request when that is of its row and, for a READ or
CWRITE, a response slot is empty. Permission, length and offset are checked in this order, and the first that fails
refuses the request; a poisoned write is refused. That each row takes its own requests is assumption 5. -/
def Obligations.ManagementChecks : Prop :=
  ∀ s : State,
    (s.mgmtQueue = [] → ∀ row : MgmtRow, exec row.command s = .next s) ∧
    (∀ r rest, s.mgmtQueue = r :: rest →
      let c := r.row.command
      (∀ row : MgmtRow, row ≠ r.row → exec row.command s = .next s) ∧
      (r.kind ≠ .write → 2 ≤ s.mgmtSlots.length → exec c s = .next s) ∧
      (r.kind = .write ∨ s.mgmtSlots.length < 2 →
        ((getAt s.sources r.source).valid = false ∨ (getAt s.sources r.source).permission = false →
          exec c s = .next (refusedWith r rest .denied s)) ∧
        ((getAt s.sources r.source).valid = true → (getAt s.sources r.source).permission = true →
          (r.length ≠ 1 → exec c s = .next (refusedWith r rest .malformed s)) ∧
          (r.length = 1 → mgmtWordAt (r.address.toNat - 0xFFFFFF0000) = none →
            exec c s = .next (refusedWith r rest .unsupported s)))) ∧
      (∀ off, Taken s r rest off → r.kind ≠ .read → r.poison = true →
        exec c s = .next (refusedWith r rest .denied s)))

/-! ### Errors, alerts and packets -/

/-- A report sets its kind's status and, when the kind is not masked, appends a record or sets the overflowed flag,
tells the class equal to the severity, and asks for a halt when that is FATAL and halt-on-fatal is set; what it asks
for in HALTED changes nothing, so no request is left waiting there. The status of a kind stands at its code less 1. A
told class builds an ALERT only from IDLE, enabled, with a valid destination; a class that is not IDLE is left pending.
That waiting requests are one Bool is assumption 10. -/
def Obligations.ErrorReports : Prop :=
  (∀ (k : ErrorKind) (port : Option PortId) (id : Ident) (s : State),
    let x := s.err.item k
    let e := { s.err with items := putAt s.err.items k.index { x with status := true } }
    (x.mask = true → report k port id s = { s with err := e }) ∧
    (x.mask = false →
      let e' :=
        if s.err.records.length < 8 then
          { e with records := s.err.records ++ [
            { kind := k, severity := x.severity, port := port, stamp := s.tick.count, ident := id }] }
        else { e with overflowed := true }
      report k port id s = { s with
        err := e'
        alert := s.alert.raise x.severity k e'.records.length e'.overflowed
        haltRequested := s.haltRequested ||
          (decide (x.severity = .fatal) && s.err.haltOnFatal && decide (s.opState ≠ .halted)) })) ∧
  (∀ (a : AlertUnit) (c : Severity) (k : ErrorKind) (n : Nat) (o : Bool),
    let x := a.cls c
    (x.state = .idle → x.enable = true → a.destValid = true →
      a.raise c k n o = a.setCls c { x with
        state := .outstanding
        latest := some k
        slot := some { dest := a.dest, cls := c, kind := k, records := n, overflowed := o } }) ∧
    (x.state = .idle → x.enable = false ∨ a.destValid = false → a.raise c k n o = a) ∧
    (x.state ≠ .idle → a.raise c k n o = a.setCls c { x with state := .pending, latest := some k })) ∧
  (∀ k : ErrorKind, k.index.val + 1 = errorNumber k)

/-- The words of a packet that the bridge sends carry its fields at the positions of the Formats chapter: requests,
DATA, DONE, FAIL and ALERT. Spare bits, and the last flag of DONE and FAIL, are sent as 0. The check word is the
remainder of R119, taken bit by bit over the words, each from its most significant bit. -/
def Obligations.SentPacketsCarryTheirFields : Prop :=
  (∀ (kind : ReqKind) (source : SourceId) (tag : BitVec 8) (poison : Bool) (length : Nat) (a : Address)
      (payload : List Word), length ≤ 64 →
    SentRequest (packRequest kind source tag poison length a payload)
      { kind := kind, source := source, tag := tag, ordered := false, poison := poison, length := length,
        address := a, override := none, payload := payload }) ∧
  (∀ (dest : SourceId) (tag : ReqTag) (g : Segment), g.words.length ≤ 16 →
    CarriesResponse (packResponse { dest := dest, tag := tag, body := .data g })
      { kind := .data, dest := dest, tag := tag, status := 0#4, last := g.last, poison := g.poison,
        data := g.words } g.words.length) ∧
  (∀ (dest : SourceId) (tag : ReqTag),
    CarriesResponse (packResponse { dest := dest, tag := tag, body := .done })
      { kind := .done, dest := dest, tag := tag, status := 0#4, last := false, poison := false,
        data := [] } 0) ∧
  (∀ (dest : SourceId) (tag : ReqTag) (st : Status),
    CarriesResponse (packResponse { dest := dest, tag := tag, body := .fail st })
      { kind := .fail, dest := dest, tag := tag, last := false, poison := false, data := []
        status := match st with
          | .unsupported => 1#4
          | .denied => 2#4
          | .retry => 3#4
          | .timeout => 4#4
          | .abort => 5#4
          | .mismatch => 6#4
          | .halted => 7#4
          | .linkDown => 8#4
          | .malformed => 9#4 } 0) ∧
  (∀ r : Response, ∃ w data, packResponse r = w :: data ∧ w.toNat / 2 ^ 5 % 16 = 0) ∧
  (∀ a : Alert, a.records ≤ 8 → ∃ w, packAlert a = [w] ∧
    w.toNat / 2 ^ 28 = 12 ∧ w.toNat / 2 ^ 23 % 32 = a.dest.val ∧
    w.toNat / 2 ^ 21 % 4 = (match a.cls with | .fatal => 1 | .nonfatal => 2 | .advisory => 3) ∧
    w.toNat / 2 ^ 16 % 32 = errorNumber a.kind ∧ w.toNat / 2 ^ 12 % 16 = a.records ∧
    w.getLsbD 11 = a.overflowed ∧ w.toNat % 2 ^ 11 = 0) ∧
  (∃ remainder : List Bool → BitVec 16,
    remainder [] = 0xFFFF#16 ∧
    (∀ bits b, remainder (bits ++ [b]) =
      if (remainder bits).getLsbD 15 = b then remainder bits <<< 1
      else (remainder bits <<< 1) ^^^ 0x1021#16) ∧
    ∀ words : List Word, checkWord words =
      remainder (words.flatMap fun w => (List.range 32).map fun i => w.getLsbD (31 - i)))

/-! ### Invariants -/

/-- The invariant holds at `State.reset` and after every device reset. -/
def Obligations.InvariantAfterDeviceReset : Prop :=
  Inv State.reset ∧ ∀ (n : SourceId) (s : State), ∃ t, exec (.deviceReset n) s = .next t ∧ Inv t

/-- Every step keeps every queue within its room and every credit count within its range, and leaves no answer
of the backlog or of the malformed list waiting beside a free place. -/
def Obligations.StepKeepsQueuesBounded : Prop :=
  ∀ s t : State, Inv s → step s = .next t → Bounded t ∧ NoneWaits t

/-- Every step keeps the loaded tables at permitted values, the queues sorted by what the ports let in, and every
record one whose limit has not run out unseen. -/
def Obligations.StepKeepsTablesAndRecordsLegal : Prop :=
  ∀ s t : State, Inv s → step s = .next t → Loaded t ∧ Sorted t ∧ RecordsSound t

/-- Every step keeps the head's phase, the operating state, what a DOWN port leaves behind, and the alert classes
sound. -/
def Obligations.StepKeepsHeadLinksAndAlertsSound : Prop :=
  ∀ s t : State, Inv s → step s = .next t → HeadSound t ∧ StatesSound t ∧ LinksSound t ∧ AlertsSound t

/-- Every step keeps the return order lists, the element slots, the entries and the outstanding counts in agreement:
each count is the number R13 defines and at most 16, and the reservations fit the Hold Buffer. -/
def Obligations.StepKeepsReturnOrderSound : Prop :=
  ∀ s t : State, Inv s → step s = .next t → OrderSound t

/-- What changes only by its own commands: the ACTIVE bank by SWAP_BANKS and device reset; HALTED is left only by
RESUME, SOFT_RESET and device reset, and no request is sent in a step taken in HALTED; the settings change, and a set
error status is cleared, only by the management rows and device reset. -/
def Obligations.WhatOnlyItsCommandsChange : Prop :=
  ∀ (c : Instr) (s t : State), exec c s = .next t → (∀ n, c ≠ .deviceReset n) →
    (c ≠ .swapBanks →
      t.activeBank = s.activeBank ∧ getAt t.banks t.activeBank = getAt s.banks s.activeBank) ∧
    (c ≠ .resume → c ≠ .softReset → s.opState = .halted → t.opState = .halted) ∧
    (HeadSound s → s.opState = .halted → packetsOn t.rsWire = packetsOn s.rsWire) ∧
    ((∀ row : MgmtRow, c ≠ row.command) →
      SameSettings s t ∧ ∀ k, (s.err.item k).status = true → (t.err.item k).status = true)

/-- No packet leaves a port without a credit: the packets sent and the credits left never exceed the packets and the
credits there were, but for the one credit that an indication brings. -/
def Obligations.NoPacketWithoutACredit : Prop :=
  ∀ (c : Instr) (s t : State), exec c s = .next t →
    packetsOn t.rqWire + t.rqCredits ≤ packetsOn s.rqWire + s.rqCredits +
      (match c with | .creditReturnIndication .rq _ => 1 | _ => 0) ∧
    packetsOn t.rsWire + t.rsCredits ≤ packetsOn s.rsWire + s.rsCredits +
      (match c with | .creditReturnIndication .rs _ => 1 | _ => 0)

end
end

