-- ==== Sys2Proof/Laws/State.lean ====
section
/-! SUPPORT. What each elementary update leaves unchanged, field by field. -/

namespace Sys2Proof.Machine

@[simp] theorem putRq_keeps (x : WireItem) (s : State) :
      (putRq x s).opState = s.opState ∧ (putRq x s).commandCode = s.commandCode ∧
      (putRq x s).commandArg = s.commandArg ∧ (putRq x s).commandRefused = s.commandRefused ∧
      (putRq x s).farSource = s.farSource ∧ (putRq x s).mgmtQueue = s.mgmtQueue ∧
      (putRq x s).mgmtSlots = s.mgmtSlots ∧ (putRq x s).haltRequested = s.haltRequested ∧
      (putRq x s).sources = s.sources ∧ (putRq x s).banks = s.banks ∧
      (putRq x s).activeBank = s.activeBank ∧ (putRq x s).swapCount = s.swapCount ∧
      (putRq x s).timeoutLimits = s.timeoutLimits ∧ (putRq x s).quarantineLimit = s.quarantineLimit ∧
      (putRq x s).strapPins = s.strapPins ∧ (putRq x s).tags = s.tags ∧
      (putRq x s).backlog = s.backlog ∧ (putRq x s).forwardQueue = s.forwardQueue ∧
      (putRq x s).headPhase = s.headPhase ∧ (putRq x s).slots = s.slots ∧
      (putRq x s).lists = s.lists ∧ (putRq x s).tick = s.tick ∧
      (putRq x s).rqLink = s.rqLink ∧ (putRq x s).rsLink = s.rsLink ∧
      (putRq x s).rqCredits = s.rqCredits ∧ (putRq x s).rsCredits = s.rsCredits ∧
      (putRq x s).trafficQueue = s.trafficQueue ∧ (putRq x s).malformedList = s.malformedList ∧
      (putRq x s).roomPointer = s.roomPointer ∧ (putRq x s).ingress = s.ingress ∧
      (putRq x s).err = s.err ∧ (putRq x s).alert = s.alert ∧
      (putRq x s).rsWire = s.rsWire ∧ (putRq x s).pending = s.pending := by
  exact ⟨rfl, rfl, rfl, rfl, rfl, rfl, rfl, rfl, rfl, rfl, rfl, rfl, rfl, rfl, rfl, rfl, rfl, rfl, rfl, rfl, rfl, rfl, rfl, rfl, rfl, rfl, rfl, rfl, rfl, rfl, rfl, rfl, rfl, rfl⟩

@[simp] theorem putRs_keeps (x : WireItem) (s : State) :
      (putRs x s).opState = s.opState ∧ (putRs x s).commandCode = s.commandCode ∧
      (putRs x s).commandArg = s.commandArg ∧ (putRs x s).commandRefused = s.commandRefused ∧
      (putRs x s).farSource = s.farSource ∧ (putRs x s).mgmtQueue = s.mgmtQueue ∧
      (putRs x s).mgmtSlots = s.mgmtSlots ∧ (putRs x s).haltRequested = s.haltRequested ∧
      (putRs x s).sources = s.sources ∧ (putRs x s).banks = s.banks ∧
      (putRs x s).activeBank = s.activeBank ∧ (putRs x s).swapCount = s.swapCount ∧
      (putRs x s).timeoutLimits = s.timeoutLimits ∧ (putRs x s).quarantineLimit = s.quarantineLimit ∧
      (putRs x s).strapPins = s.strapPins ∧ (putRs x s).tags = s.tags ∧
      (putRs x s).backlog = s.backlog ∧ (putRs x s).forwardQueue = s.forwardQueue ∧
      (putRs x s).headPhase = s.headPhase ∧ (putRs x s).slots = s.slots ∧
      (putRs x s).lists = s.lists ∧ (putRs x s).tick = s.tick ∧
      (putRs x s).rqLink = s.rqLink ∧ (putRs x s).rsLink = s.rsLink ∧
      (putRs x s).rqCredits = s.rqCredits ∧ (putRs x s).rsCredits = s.rsCredits ∧
      (putRs x s).trafficQueue = s.trafficQueue ∧ (putRs x s).malformedList = s.malformedList ∧
      (putRs x s).roomPointer = s.roomPointer ∧ (putRs x s).ingress = s.ingress ∧
      (putRs x s).err = s.err ∧ (putRs x s).alert = s.alert ∧
      (putRs x s).rqWire = s.rqWire ∧ (putRs x s).pending = s.pending := by
  exact ⟨rfl, rfl, rfl, rfl, rfl, rfl, rfl, rfl, rfl, rfl, rfl, rfl, rfl, rfl, rfl, rfl, rfl, rfl, rfl, rfl, rfl, rfl, rfl, rfl, rfl, rfl, rfl, rfl, rfl, rfl, rfl, rfl, rfl, rfl⟩

@[simp] theorem returnRqCredits_keeps (p : PoolCode) (n : Nat) (s : State) :
      (returnRqCredits p n s).opState = s.opState ∧ (returnRqCredits p n s).commandCode = s.commandCode ∧
      (returnRqCredits p n s).commandArg = s.commandArg ∧ (returnRqCredits p n s).commandRefused = s.commandRefused ∧
      (returnRqCredits p n s).farSource = s.farSource ∧ (returnRqCredits p n s).mgmtQueue = s.mgmtQueue ∧
      (returnRqCredits p n s).mgmtSlots = s.mgmtSlots ∧ (returnRqCredits p n s).haltRequested = s.haltRequested ∧
      (returnRqCredits p n s).sources = s.sources ∧ (returnRqCredits p n s).banks = s.banks ∧
      (returnRqCredits p n s).activeBank = s.activeBank ∧ (returnRqCredits p n s).swapCount = s.swapCount ∧
      (returnRqCredits p n s).timeoutLimits = s.timeoutLimits ∧ (returnRqCredits p n s).quarantineLimit = s.quarantineLimit ∧
      (returnRqCredits p n s).strapPins = s.strapPins ∧ (returnRqCredits p n s).tags = s.tags ∧
      (returnRqCredits p n s).backlog = s.backlog ∧ (returnRqCredits p n s).forwardQueue = s.forwardQueue ∧
      (returnRqCredits p n s).headPhase = s.headPhase ∧ (returnRqCredits p n s).slots = s.slots ∧
      (returnRqCredits p n s).lists = s.lists ∧ (returnRqCredits p n s).tick = s.tick ∧
      (returnRqCredits p n s).rqLink = s.rqLink ∧ (returnRqCredits p n s).rsLink = s.rsLink ∧
      (returnRqCredits p n s).rqCredits = s.rqCredits ∧ (returnRqCredits p n s).rsCredits = s.rsCredits ∧
      (returnRqCredits p n s).trafficQueue = s.trafficQueue ∧ (returnRqCredits p n s).malformedList = s.malformedList ∧
      (returnRqCredits p n s).roomPointer = s.roomPointer ∧ (returnRqCredits p n s).ingress = s.ingress ∧
      (returnRqCredits p n s).err = s.err ∧ (returnRqCredits p n s).alert = s.alert ∧
      (returnRqCredits p n s).rsWire = s.rsWire ∧ (returnRqCredits p n s).pending = s.pending := by
  unfold returnRqCredits; split <;> exact ⟨rfl, rfl, rfl, rfl, rfl, rfl, rfl, rfl, rfl, rfl, rfl, rfl, rfl, rfl, rfl, rfl, rfl, rfl, rfl, rfl, rfl, rfl, rfl, rfl, rfl, rfl, rfl, rfl, rfl, rfl, rfl, rfl, rfl, rfl⟩

@[simp] theorem returnRsCredits_keeps (n : Nat) (s : State) :
      (returnRsCredits n s).opState = s.opState ∧ (returnRsCredits n s).commandCode = s.commandCode ∧
      (returnRsCredits n s).commandArg = s.commandArg ∧ (returnRsCredits n s).commandRefused = s.commandRefused ∧
      (returnRsCredits n s).farSource = s.farSource ∧ (returnRsCredits n s).mgmtQueue = s.mgmtQueue ∧
      (returnRsCredits n s).mgmtSlots = s.mgmtSlots ∧ (returnRsCredits n s).haltRequested = s.haltRequested ∧
      (returnRsCredits n s).sources = s.sources ∧ (returnRsCredits n s).banks = s.banks ∧
      (returnRsCredits n s).activeBank = s.activeBank ∧ (returnRsCredits n s).swapCount = s.swapCount ∧
      (returnRsCredits n s).timeoutLimits = s.timeoutLimits ∧ (returnRsCredits n s).quarantineLimit = s.quarantineLimit ∧
      (returnRsCredits n s).strapPins = s.strapPins ∧ (returnRsCredits n s).tags = s.tags ∧
      (returnRsCredits n s).backlog = s.backlog ∧ (returnRsCredits n s).forwardQueue = s.forwardQueue ∧
      (returnRsCredits n s).headPhase = s.headPhase ∧ (returnRsCredits n s).slots = s.slots ∧
      (returnRsCredits n s).lists = s.lists ∧ (returnRsCredits n s).tick = s.tick ∧
      (returnRsCredits n s).rqLink = s.rqLink ∧ (returnRsCredits n s).rsLink = s.rsLink ∧
      (returnRsCredits n s).rqCredits = s.rqCredits ∧ (returnRsCredits n s).rsCredits = s.rsCredits ∧
      (returnRsCredits n s).trafficQueue = s.trafficQueue ∧ (returnRsCredits n s).malformedList = s.malformedList ∧
      (returnRsCredits n s).roomPointer = s.roomPointer ∧ (returnRsCredits n s).ingress = s.ingress ∧
      (returnRsCredits n s).err = s.err ∧ (returnRsCredits n s).alert = s.alert ∧
      (returnRsCredits n s).rqWire = s.rqWire ∧ (returnRsCredits n s).pending = s.pending := by
  unfold returnRsCredits; split <;> exact ⟨rfl, rfl, rfl, rfl, rfl, rfl, rfl, rfl, rfl, rfl, rfl, rfl, rfl, rfl, rfl, rfl, rfl, rfl, rfl, rfl, rfl, rfl, rfl, rfl, rfl, rfl, rfl, rfl, rfl, rfl, rfl, rfl, rfl, rfl⟩

@[simp] theorem pushTraffic_keeps (r : Response) (s : State) :
      (pushTraffic r s).opState = s.opState ∧ (pushTraffic r s).commandCode = s.commandCode ∧
      (pushTraffic r s).commandArg = s.commandArg ∧ (pushTraffic r s).commandRefused = s.commandRefused ∧
      (pushTraffic r s).farSource = s.farSource ∧ (pushTraffic r s).mgmtQueue = s.mgmtQueue ∧
      (pushTraffic r s).mgmtSlots = s.mgmtSlots ∧ (pushTraffic r s).haltRequested = s.haltRequested ∧
      (pushTraffic r s).sources = s.sources ∧ (pushTraffic r s).banks = s.banks ∧
      (pushTraffic r s).activeBank = s.activeBank ∧ (pushTraffic r s).swapCount = s.swapCount ∧
      (pushTraffic r s).timeoutLimits = s.timeoutLimits ∧ (pushTraffic r s).quarantineLimit = s.quarantineLimit ∧
      (pushTraffic r s).strapPins = s.strapPins ∧ (pushTraffic r s).tags = s.tags ∧
      (pushTraffic r s).backlog = s.backlog ∧ (pushTraffic r s).forwardQueue = s.forwardQueue ∧
      (pushTraffic r s).headPhase = s.headPhase ∧ (pushTraffic r s).slots = s.slots ∧
      (pushTraffic r s).lists = s.lists ∧ (pushTraffic r s).tick = s.tick ∧
      (pushTraffic r s).rqLink = s.rqLink ∧ (pushTraffic r s).rsLink = s.rsLink ∧
      (pushTraffic r s).rqCredits = s.rqCredits ∧ (pushTraffic r s).rsCredits = s.rsCredits ∧
      (pushTraffic r s).malformedList = s.malformedList ∧ (pushTraffic r s).roomPointer = s.roomPointer ∧
      (pushTraffic r s).ingress = s.ingress ∧ (pushTraffic r s).err = s.err ∧
      (pushTraffic r s).alert = s.alert ∧ (pushTraffic r s).rqWire = s.rqWire ∧
      (pushTraffic r s).rsWire = s.rsWire ∧ (pushTraffic r s).pending = s.pending := by
  exact ⟨rfl, rfl, rfl, rfl, rfl, rfl, rfl, rfl, rfl, rfl, rfl, rfl, rfl, rfl, rfl, rfl, rfl, rfl, rfl, rfl, rfl, rfl, rfl, rfl, rfl, rfl, rfl, rfl, rfl, rfl, rfl, rfl, rfl, rfl⟩

@[simp] theorem mapCount_keeps (n : SourceId) (f : Nat → Nat) (s : State) :
      (mapCount n f s).opState = s.opState ∧ (mapCount n f s).commandCode = s.commandCode ∧
      (mapCount n f s).commandArg = s.commandArg ∧ (mapCount n f s).commandRefused = s.commandRefused ∧
      (mapCount n f s).farSource = s.farSource ∧ (mapCount n f s).mgmtQueue = s.mgmtQueue ∧
      (mapCount n f s).mgmtSlots = s.mgmtSlots ∧ (mapCount n f s).haltRequested = s.haltRequested ∧
      (mapCount n f s).banks = s.banks ∧ (mapCount n f s).activeBank = s.activeBank ∧
      (mapCount n f s).swapCount = s.swapCount ∧ (mapCount n f s).timeoutLimits = s.timeoutLimits ∧
      (mapCount n f s).quarantineLimit = s.quarantineLimit ∧ (mapCount n f s).strapPins = s.strapPins ∧
      (mapCount n f s).tags = s.tags ∧ (mapCount n f s).backlog = s.backlog ∧
      (mapCount n f s).forwardQueue = s.forwardQueue ∧ (mapCount n f s).headPhase = s.headPhase ∧
      (mapCount n f s).slots = s.slots ∧ (mapCount n f s).lists = s.lists ∧
      (mapCount n f s).tick = s.tick ∧ (mapCount n f s).rqLink = s.rqLink ∧
      (mapCount n f s).rsLink = s.rsLink ∧ (mapCount n f s).rqCredits = s.rqCredits ∧
      (mapCount n f s).rsCredits = s.rsCredits ∧ (mapCount n f s).trafficQueue = s.trafficQueue ∧
      (mapCount n f s).malformedList = s.malformedList ∧ (mapCount n f s).roomPointer = s.roomPointer ∧
      (mapCount n f s).ingress = s.ingress ∧ (mapCount n f s).err = s.err ∧
      (mapCount n f s).alert = s.alert ∧ (mapCount n f s).rqWire = s.rqWire ∧
      (mapCount n f s).rsWire = s.rsWire ∧ (mapCount n f s).pending = s.pending := by
  exact ⟨rfl, rfl, rfl, rfl, rfl, rfl, rfl, rfl, rfl, rfl, rfl, rfl, rfl, rfl, rfl, rfl, rfl, rfl, rfl, rfl, rfl, rfl, rfl, rfl, rfl, rfl, rfl, rfl, rfl, rfl, rfl, rfl, rfl, rfl⟩

@[simp] theorem raiseCount_keeps (n : SourceId) (s : State) :
      (raiseCount n s).opState = s.opState ∧ (raiseCount n s).commandCode = s.commandCode ∧
      (raiseCount n s).commandArg = s.commandArg ∧ (raiseCount n s).commandRefused = s.commandRefused ∧
      (raiseCount n s).farSource = s.farSource ∧ (raiseCount n s).mgmtQueue = s.mgmtQueue ∧
      (raiseCount n s).mgmtSlots = s.mgmtSlots ∧ (raiseCount n s).haltRequested = s.haltRequested ∧
      (raiseCount n s).banks = s.banks ∧ (raiseCount n s).activeBank = s.activeBank ∧
      (raiseCount n s).swapCount = s.swapCount ∧ (raiseCount n s).timeoutLimits = s.timeoutLimits ∧
      (raiseCount n s).quarantineLimit = s.quarantineLimit ∧ (raiseCount n s).strapPins = s.strapPins ∧
      (raiseCount n s).tags = s.tags ∧ (raiseCount n s).backlog = s.backlog ∧
      (raiseCount n s).forwardQueue = s.forwardQueue ∧ (raiseCount n s).headPhase = s.headPhase ∧
      (raiseCount n s).slots = s.slots ∧ (raiseCount n s).lists = s.lists ∧
      (raiseCount n s).tick = s.tick ∧ (raiseCount n s).rqLink = s.rqLink ∧
      (raiseCount n s).rsLink = s.rsLink ∧ (raiseCount n s).rqCredits = s.rqCredits ∧
      (raiseCount n s).rsCredits = s.rsCredits ∧ (raiseCount n s).trafficQueue = s.trafficQueue ∧
      (raiseCount n s).malformedList = s.malformedList ∧ (raiseCount n s).roomPointer = s.roomPointer ∧
      (raiseCount n s).ingress = s.ingress ∧ (raiseCount n s).err = s.err ∧
      (raiseCount n s).alert = s.alert ∧ (raiseCount n s).rqWire = s.rqWire ∧
      (raiseCount n s).rsWire = s.rsWire ∧ (raiseCount n s).pending = s.pending := by
  exact ⟨rfl, rfl, rfl, rfl, rfl, rfl, rfl, rfl, rfl, rfl, rfl, rfl, rfl, rfl, rfl, rfl, rfl, rfl, rfl, rfl, rfl, rfl, rfl, rfl, rfl, rfl, rfl, rfl, rfl, rfl, rfl, rfl, rfl, rfl⟩

@[simp] theorem lowerCount_keeps (n : SourceId) (s : State) :
      (lowerCount n s).opState = s.opState ∧ (lowerCount n s).commandCode = s.commandCode ∧
      (lowerCount n s).commandArg = s.commandArg ∧ (lowerCount n s).commandRefused = s.commandRefused ∧
      (lowerCount n s).farSource = s.farSource ∧ (lowerCount n s).mgmtQueue = s.mgmtQueue ∧
      (lowerCount n s).mgmtSlots = s.mgmtSlots ∧ (lowerCount n s).haltRequested = s.haltRequested ∧
      (lowerCount n s).banks = s.banks ∧ (lowerCount n s).activeBank = s.activeBank ∧
      (lowerCount n s).swapCount = s.swapCount ∧ (lowerCount n s).timeoutLimits = s.timeoutLimits ∧
      (lowerCount n s).quarantineLimit = s.quarantineLimit ∧ (lowerCount n s).strapPins = s.strapPins ∧
      (lowerCount n s).tags = s.tags ∧ (lowerCount n s).backlog = s.backlog ∧
      (lowerCount n s).forwardQueue = s.forwardQueue ∧ (lowerCount n s).headPhase = s.headPhase ∧
      (lowerCount n s).slots = s.slots ∧ (lowerCount n s).lists = s.lists ∧
      (lowerCount n s).tick = s.tick ∧ (lowerCount n s).rqLink = s.rqLink ∧
      (lowerCount n s).rsLink = s.rsLink ∧ (lowerCount n s).rqCredits = s.rqCredits ∧
      (lowerCount n s).rsCredits = s.rsCredits ∧ (lowerCount n s).trafficQueue = s.trafficQueue ∧
      (lowerCount n s).malformedList = s.malformedList ∧ (lowerCount n s).roomPointer = s.roomPointer ∧
      (lowerCount n s).ingress = s.ingress ∧ (lowerCount n s).err = s.err ∧
      (lowerCount n s).alert = s.alert ∧ (lowerCount n s).rqWire = s.rqWire ∧
      (lowerCount n s).rsWire = s.rsWire ∧ (lowerCount n s).pending = s.pending := by
  exact ⟨rfl, rfl, rfl, rfl, rfl, rfl, rfl, rfl, rfl, rfl, rfl, rfl, rfl, rfl, rfl, rfl, rfl, rfl, rfl, rfl, rfl, rfl, rfl, rfl, rfl, rfl, rfl, rfl, rfl, rfl, rfl, rfl, rfl, rfl⟩

@[simp] theorem setSlot_keeps (l : SlotId) (x : Option Element) (s : State) :
      (setSlot l x s).opState = s.opState ∧ (setSlot l x s).commandCode = s.commandCode ∧
      (setSlot l x s).commandArg = s.commandArg ∧ (setSlot l x s).commandRefused = s.commandRefused ∧
      (setSlot l x s).farSource = s.farSource ∧ (setSlot l x s).mgmtQueue = s.mgmtQueue ∧
      (setSlot l x s).mgmtSlots = s.mgmtSlots ∧ (setSlot l x s).haltRequested = s.haltRequested ∧
      (setSlot l x s).sources = s.sources ∧ (setSlot l x s).banks = s.banks ∧
      (setSlot l x s).activeBank = s.activeBank ∧ (setSlot l x s).swapCount = s.swapCount ∧
      (setSlot l x s).timeoutLimits = s.timeoutLimits ∧ (setSlot l x s).quarantineLimit = s.quarantineLimit ∧
      (setSlot l x s).strapPins = s.strapPins ∧ (setSlot l x s).tags = s.tags ∧
      (setSlot l x s).backlog = s.backlog ∧ (setSlot l x s).forwardQueue = s.forwardQueue ∧
      (setSlot l x s).headPhase = s.headPhase ∧ (setSlot l x s).lists = s.lists ∧
      (setSlot l x s).tick = s.tick ∧ (setSlot l x s).rqLink = s.rqLink ∧
      (setSlot l x s).rsLink = s.rsLink ∧ (setSlot l x s).rqCredits = s.rqCredits ∧
      (setSlot l x s).rsCredits = s.rsCredits ∧ (setSlot l x s).trafficQueue = s.trafficQueue ∧
      (setSlot l x s).malformedList = s.malformedList ∧ (setSlot l x s).roomPointer = s.roomPointer ∧
      (setSlot l x s).ingress = s.ingress ∧ (setSlot l x s).err = s.err ∧
      (setSlot l x s).alert = s.alert ∧ (setSlot l x s).rqWire = s.rqWire ∧
      (setSlot l x s).rsWire = s.rsWire ∧ (setSlot l x s).pending = s.pending := by
  exact ⟨rfl, rfl, rfl, rfl, rfl, rfl, rfl, rfl, rfl, rfl, rfl, rfl, rfl, rfl, rfl, rfl, rfl, rfl, rfl, rfl, rfl, rfl, rfl, rfl, rfl, rfl, rfl, rfl, rfl, rfl, rfl, rfl, rfl, rfl⟩

@[simp] theorem mapElement_keeps (l : SlotId) (f : Element → Element) (s : State) :
      (mapElement l f s).opState = s.opState ∧ (mapElement l f s).commandCode = s.commandCode ∧
      (mapElement l f s).commandArg = s.commandArg ∧ (mapElement l f s).commandRefused = s.commandRefused ∧
      (mapElement l f s).farSource = s.farSource ∧ (mapElement l f s).mgmtQueue = s.mgmtQueue ∧
      (mapElement l f s).mgmtSlots = s.mgmtSlots ∧ (mapElement l f s).haltRequested = s.haltRequested ∧
      (mapElement l f s).sources = s.sources ∧ (mapElement l f s).banks = s.banks ∧
      (mapElement l f s).activeBank = s.activeBank ∧ (mapElement l f s).swapCount = s.swapCount ∧
      (mapElement l f s).timeoutLimits = s.timeoutLimits ∧ (mapElement l f s).quarantineLimit = s.quarantineLimit ∧
      (mapElement l f s).strapPins = s.strapPins ∧ (mapElement l f s).tags = s.tags ∧
      (mapElement l f s).backlog = s.backlog ∧ (mapElement l f s).forwardQueue = s.forwardQueue ∧
      (mapElement l f s).headPhase = s.headPhase ∧ (mapElement l f s).lists = s.lists ∧
      (mapElement l f s).tick = s.tick ∧ (mapElement l f s).rqLink = s.rqLink ∧
      (mapElement l f s).rsLink = s.rsLink ∧ (mapElement l f s).rqCredits = s.rqCredits ∧
      (mapElement l f s).rsCredits = s.rsCredits ∧ (mapElement l f s).trafficQueue = s.trafficQueue ∧
      (mapElement l f s).malformedList = s.malformedList ∧ (mapElement l f s).roomPointer = s.roomPointer ∧
      (mapElement l f s).ingress = s.ingress ∧ (mapElement l f s).err = s.err ∧
      (mapElement l f s).alert = s.alert ∧ (mapElement l f s).rqWire = s.rqWire ∧
      (mapElement l f s).rsWire = s.rsWire ∧ (mapElement l f s).pending = s.pending := by
  exact ⟨rfl, rfl, rfl, rfl, rfl, rfl, rfl, rfl, rfl, rfl, rfl, rfl, rfl, rfl, rfl, rfl, rfl, rfl, rfl, rfl, rfl, rfl, rfl, rfl, rfl, rfl, rfl, rfl, rfl, rfl, rfl, rfl, rfl, rfl⟩

@[simp] theorem removeElement_keeps (n : SourceId) (l : SlotId) (s : State) :
      (removeElement n l s).opState = s.opState ∧ (removeElement n l s).commandCode = s.commandCode ∧
      (removeElement n l s).commandArg = s.commandArg ∧ (removeElement n l s).commandRefused = s.commandRefused ∧
      (removeElement n l s).farSource = s.farSource ∧ (removeElement n l s).mgmtQueue = s.mgmtQueue ∧
      (removeElement n l s).mgmtSlots = s.mgmtSlots ∧ (removeElement n l s).haltRequested = s.haltRequested ∧
      (removeElement n l s).sources = s.sources ∧ (removeElement n l s).banks = s.banks ∧
      (removeElement n l s).activeBank = s.activeBank ∧ (removeElement n l s).swapCount = s.swapCount ∧
      (removeElement n l s).timeoutLimits = s.timeoutLimits ∧ (removeElement n l s).quarantineLimit = s.quarantineLimit ∧
      (removeElement n l s).strapPins = s.strapPins ∧ (removeElement n l s).tags = s.tags ∧
      (removeElement n l s).backlog = s.backlog ∧ (removeElement n l s).forwardQueue = s.forwardQueue ∧
      (removeElement n l s).headPhase = s.headPhase ∧ (removeElement n l s).tick = s.tick ∧
      (removeElement n l s).rqLink = s.rqLink ∧ (removeElement n l s).rsLink = s.rsLink ∧
      (removeElement n l s).rqCredits = s.rqCredits ∧ (removeElement n l s).rsCredits = s.rsCredits ∧
      (removeElement n l s).trafficQueue = s.trafficQueue ∧ (removeElement n l s).malformedList = s.malformedList ∧
      (removeElement n l s).roomPointer = s.roomPointer ∧ (removeElement n l s).ingress = s.ingress ∧
      (removeElement n l s).err = s.err ∧ (removeElement n l s).alert = s.alert ∧
      (removeElement n l s).rqWire = s.rqWire ∧ (removeElement n l s).rsWire = s.rsWire ∧
      (removeElement n l s).pending = s.pending := by
  exact ⟨rfl, rfl, rfl, rfl, rfl, rfl, rfl, rfl, rfl, rfl, rfl, rfl, rfl, rfl, rfl, rfl, rfl, rfl, rfl, rfl, rfl, rfl, rfl, rfl, rfl, rfl, rfl, rfl, rfl, rfl, rfl, rfl, rfl⟩

@[simp] theorem clearLists_keeps (s : State) :
      (clearLists s).opState = s.opState ∧ (clearLists s).commandCode = s.commandCode ∧
      (clearLists s).commandArg = s.commandArg ∧ (clearLists s).commandRefused = s.commandRefused ∧
      (clearLists s).farSource = s.farSource ∧ (clearLists s).mgmtQueue = s.mgmtQueue ∧
      (clearLists s).mgmtSlots = s.mgmtSlots ∧ (clearLists s).haltRequested = s.haltRequested ∧
      (clearLists s).sources = s.sources ∧ (clearLists s).banks = s.banks ∧
      (clearLists s).activeBank = s.activeBank ∧ (clearLists s).swapCount = s.swapCount ∧
      (clearLists s).timeoutLimits = s.timeoutLimits ∧ (clearLists s).quarantineLimit = s.quarantineLimit ∧
      (clearLists s).strapPins = s.strapPins ∧ (clearLists s).tags = s.tags ∧
      (clearLists s).backlog = s.backlog ∧ (clearLists s).forwardQueue = s.forwardQueue ∧
      (clearLists s).headPhase = s.headPhase ∧ (clearLists s).tick = s.tick ∧
      (clearLists s).rqLink = s.rqLink ∧ (clearLists s).rsLink = s.rsLink ∧
      (clearLists s).rqCredits = s.rqCredits ∧ (clearLists s).rsCredits = s.rsCredits ∧
      (clearLists s).trafficQueue = s.trafficQueue ∧ (clearLists s).malformedList = s.malformedList ∧
      (clearLists s).roomPointer = s.roomPointer ∧ (clearLists s).ingress = s.ingress ∧
      (clearLists s).err = s.err ∧ (clearLists s).alert = s.alert ∧
      (clearLists s).rqWire = s.rqWire ∧ (clearLists s).rsWire = s.rsWire ∧
      (clearLists s).pending = s.pending := by
  exact ⟨rfl, rfl, rfl, rfl, rfl, rfl, rfl, rfl, rfl, rfl, rfl, rfl, rfl, rfl, rfl, rfl, rfl, rfl, rfl, rfl, rfl, rfl, rfl, rfl, rfl, rfl, rfl, rfl, rfl, rfl, rfl, rfl, rfl⟩

@[simp] theorem setTag_keeps (t : PoolTag) (x : TagState) (s : State) :
      (setTag t x s).opState = s.opState ∧ (setTag t x s).commandCode = s.commandCode ∧
      (setTag t x s).commandArg = s.commandArg ∧ (setTag t x s).commandRefused = s.commandRefused ∧
      (setTag t x s).farSource = s.farSource ∧ (setTag t x s).mgmtQueue = s.mgmtQueue ∧
      (setTag t x s).mgmtSlots = s.mgmtSlots ∧ (setTag t x s).haltRequested = s.haltRequested ∧
      (setTag t x s).sources = s.sources ∧ (setTag t x s).banks = s.banks ∧
      (setTag t x s).activeBank = s.activeBank ∧ (setTag t x s).swapCount = s.swapCount ∧
      (setTag t x s).timeoutLimits = s.timeoutLimits ∧ (setTag t x s).quarantineLimit = s.quarantineLimit ∧
      (setTag t x s).strapPins = s.strapPins ∧ (setTag t x s).backlog = s.backlog ∧
      (setTag t x s).forwardQueue = s.forwardQueue ∧ (setTag t x s).headPhase = s.headPhase ∧
      (setTag t x s).slots = s.slots ∧ (setTag t x s).lists = s.lists ∧
      (setTag t x s).tick = s.tick ∧ (setTag t x s).rqLink = s.rqLink ∧
      (setTag t x s).rsLink = s.rsLink ∧ (setTag t x s).rqCredits = s.rqCredits ∧
      (setTag t x s).rsCredits = s.rsCredits ∧ (setTag t x s).trafficQueue = s.trafficQueue ∧
      (setTag t x s).malformedList = s.malformedList ∧ (setTag t x s).roomPointer = s.roomPointer ∧
      (setTag t x s).ingress = s.ingress ∧ (setTag t x s).err = s.err ∧
      (setTag t x s).alert = s.alert ∧ (setTag t x s).rqWire = s.rqWire ∧
      (setTag t x s).rsWire = s.rsWire ∧ (setTag t x s).pending = s.pending := by
  exact ⟨rfl, rfl, rfl, rfl, rfl, rfl, rfl, rfl, rfl, rfl, rfl, rfl, rfl, rfl, rfl, rfl, rfl, rfl, rfl, rfl, rfl, rfl, rfl, rfl, rfl, rfl, rfl, rfl, rfl, rfl, rfl, rfl, rfl, rfl⟩

@[simp] theorem setPhase_keeps (p : HeadPhase) (s : State) :
      (setPhase p s).opState = s.opState ∧ (setPhase p s).commandCode = s.commandCode ∧
      (setPhase p s).commandArg = s.commandArg ∧ (setPhase p s).commandRefused = s.commandRefused ∧
      (setPhase p s).farSource = s.farSource ∧ (setPhase p s).mgmtQueue = s.mgmtQueue ∧
      (setPhase p s).mgmtSlots = s.mgmtSlots ∧ (setPhase p s).haltRequested = s.haltRequested ∧
      (setPhase p s).sources = s.sources ∧ (setPhase p s).banks = s.banks ∧
      (setPhase p s).activeBank = s.activeBank ∧ (setPhase p s).swapCount = s.swapCount ∧
      (setPhase p s).timeoutLimits = s.timeoutLimits ∧ (setPhase p s).quarantineLimit = s.quarantineLimit ∧
      (setPhase p s).strapPins = s.strapPins ∧ (setPhase p s).tags = s.tags ∧
      (setPhase p s).backlog = s.backlog ∧ (setPhase p s).forwardQueue = s.forwardQueue ∧
      (setPhase p s).slots = s.slots ∧ (setPhase p s).lists = s.lists ∧
      (setPhase p s).tick = s.tick ∧ (setPhase p s).rqLink = s.rqLink ∧
      (setPhase p s).rsLink = s.rsLink ∧ (setPhase p s).rqCredits = s.rqCredits ∧
      (setPhase p s).rsCredits = s.rsCredits ∧ (setPhase p s).trafficQueue = s.trafficQueue ∧
      (setPhase p s).malformedList = s.malformedList ∧ (setPhase p s).roomPointer = s.roomPointer ∧
      (setPhase p s).ingress = s.ingress ∧ (setPhase p s).err = s.err ∧
      (setPhase p s).alert = s.alert ∧ (setPhase p s).rqWire = s.rqWire ∧
      (setPhase p s).rsWire = s.rsWire ∧ (setPhase p s).pending = s.pending := by
  exact ⟨rfl, rfl, rfl, rfl, rfl, rfl, rfl, rfl, rfl, rfl, rfl, rfl, rfl, rfl, rfl, rfl, rfl, rfl, rfl, rfl, rfl, rfl, rfl, rfl, rfl, rfl, rfl, rfl, rfl, rfl, rfl, rfl, rfl, rfl⟩

@[simp] theorem appendElement_keeps (n : SourceId) (l : SlotId) (e : Element) (s : State) :
      (appendElement n l e s).opState = s.opState ∧ (appendElement n l e s).commandCode = s.commandCode ∧
      (appendElement n l e s).commandArg = s.commandArg ∧ (appendElement n l e s).commandRefused = s.commandRefused ∧
      (appendElement n l e s).farSource = s.farSource ∧ (appendElement n l e s).mgmtQueue = s.mgmtQueue ∧
      (appendElement n l e s).mgmtSlots = s.mgmtSlots ∧ (appendElement n l e s).haltRequested = s.haltRequested ∧
      (appendElement n l e s).sources = s.sources ∧ (appendElement n l e s).banks = s.banks ∧
      (appendElement n l e s).activeBank = s.activeBank ∧ (appendElement n l e s).swapCount = s.swapCount ∧
      (appendElement n l e s).timeoutLimits = s.timeoutLimits ∧ (appendElement n l e s).quarantineLimit = s.quarantineLimit ∧
      (appendElement n l e s).strapPins = s.strapPins ∧ (appendElement n l e s).tags = s.tags ∧
      (appendElement n l e s).backlog = s.backlog ∧ (appendElement n l e s).forwardQueue = s.forwardQueue ∧
      (appendElement n l e s).headPhase = s.headPhase ∧ (appendElement n l e s).tick = s.tick ∧
      (appendElement n l e s).rqLink = s.rqLink ∧ (appendElement n l e s).rsLink = s.rsLink ∧
      (appendElement n l e s).rqCredits = s.rqCredits ∧ (appendElement n l e s).rsCredits = s.rsCredits ∧
      (appendElement n l e s).trafficQueue = s.trafficQueue ∧ (appendElement n l e s).malformedList = s.malformedList ∧
      (appendElement n l e s).roomPointer = s.roomPointer ∧ (appendElement n l e s).ingress = s.ingress ∧
      (appendElement n l e s).err = s.err ∧ (appendElement n l e s).alert = s.alert ∧
      (appendElement n l e s).rqWire = s.rqWire ∧ (appendElement n l e s).rsWire = s.rsWire ∧
      (appendElement n l e s).pending = s.pending := by
  exact ⟨rfl, rfl, rfl, rfl, rfl, rfl, rfl, rfl, rfl, rfl, rfl, rfl, rfl, rfl, rfl, rfl, rfl, rfl, rfl, rfl, rfl, rfl, rfl, rfl, rfl, rfl, rfl, rfl, rfl, rfl, rfl, rfl, rfl⟩

@[simp] theorem drained_keeps (s : State) :
      (drained s).commandCode = s.commandCode ∧ (drained s).commandArg = s.commandArg ∧
      (drained s).commandRefused = s.commandRefused ∧ (drained s).farSource = s.farSource ∧
      (drained s).mgmtQueue = s.mgmtQueue ∧ (drained s).mgmtSlots = s.mgmtSlots ∧
      (drained s).haltRequested = s.haltRequested ∧ (drained s).sources = s.sources ∧
      (drained s).banks = s.banks ∧ (drained s).activeBank = s.activeBank ∧
      (drained s).swapCount = s.swapCount ∧ (drained s).timeoutLimits = s.timeoutLimits ∧
      (drained s).quarantineLimit = s.quarantineLimit ∧ (drained s).strapPins = s.strapPins ∧
      (drained s).tags = s.tags ∧ (drained s).backlog = s.backlog ∧
      (drained s).forwardQueue = s.forwardQueue ∧ (drained s).headPhase = s.headPhase ∧
      (drained s).slots = s.slots ∧ (drained s).lists = s.lists ∧
      (drained s).tick = s.tick ∧ (drained s).rqLink = s.rqLink ∧
      (drained s).rsLink = s.rsLink ∧ (drained s).rqCredits = s.rqCredits ∧
      (drained s).rsCredits = s.rsCredits ∧ (drained s).trafficQueue = s.trafficQueue ∧
      (drained s).malformedList = s.malformedList ∧ (drained s).roomPointer = s.roomPointer ∧
      (drained s).ingress = s.ingress ∧ (drained s).err = s.err ∧
      (drained s).alert = s.alert ∧ (drained s).rqWire = s.rqWire ∧
      (drained s).rsWire = s.rsWire ∧ (drained s).pending = s.pending := by
  unfold drained; split <;> exact ⟨rfl, rfl, rfl, rfl, rfl, rfl, rfl, rfl, rfl, rfl, rfl, rfl, rfl, rfl, rfl, rfl, rfl, rfl, rfl, rfl, rfl, rfl, rfl, rfl, rfl, rfl, rfl, rfl, rfl, rfl, rfl, rfl, rfl, rfl⟩

@[simp] theorem reportUnmasked_keeps (k : ErrorKind) (port : Option PortId) (id : Ident) (s : State) :
      (reportUnmasked k port id s).opState = s.opState ∧ (reportUnmasked k port id s).commandCode = s.commandCode ∧
      (reportUnmasked k port id s).commandArg = s.commandArg ∧ (reportUnmasked k port id s).commandRefused = s.commandRefused ∧
      (reportUnmasked k port id s).farSource = s.farSource ∧ (reportUnmasked k port id s).mgmtQueue = s.mgmtQueue ∧
      (reportUnmasked k port id s).mgmtSlots = s.mgmtSlots ∧ (reportUnmasked k port id s).sources = s.sources ∧
      (reportUnmasked k port id s).banks = s.banks ∧ (reportUnmasked k port id s).activeBank = s.activeBank ∧
      (reportUnmasked k port id s).swapCount = s.swapCount ∧ (reportUnmasked k port id s).timeoutLimits = s.timeoutLimits ∧
      (reportUnmasked k port id s).quarantineLimit = s.quarantineLimit ∧ (reportUnmasked k port id s).strapPins = s.strapPins ∧
      (reportUnmasked k port id s).tags = s.tags ∧ (reportUnmasked k port id s).backlog = s.backlog ∧
      (reportUnmasked k port id s).forwardQueue = s.forwardQueue ∧ (reportUnmasked k port id s).headPhase = s.headPhase ∧
      (reportUnmasked k port id s).slots = s.slots ∧ (reportUnmasked k port id s).lists = s.lists ∧
      (reportUnmasked k port id s).tick = s.tick ∧ (reportUnmasked k port id s).rqLink = s.rqLink ∧
      (reportUnmasked k port id s).rsLink = s.rsLink ∧ (reportUnmasked k port id s).rqCredits = s.rqCredits ∧
      (reportUnmasked k port id s).rsCredits = s.rsCredits ∧ (reportUnmasked k port id s).trafficQueue = s.trafficQueue ∧
      (reportUnmasked k port id s).malformedList = s.malformedList ∧ (reportUnmasked k port id s).roomPointer = s.roomPointer ∧
      (reportUnmasked k port id s).ingress = s.ingress ∧ (reportUnmasked k port id s).rqWire = s.rqWire ∧
      (reportUnmasked k port id s).rsWire = s.rsWire ∧ (reportUnmasked k port id s).pending = s.pending := by
  exact ⟨rfl, rfl, rfl, rfl, rfl, rfl, rfl, rfl, rfl, rfl, rfl, rfl, rfl, rfl, rfl, rfl, rfl, rfl, rfl, rfl, rfl, rfl, rfl, rfl, rfl, rfl, rfl, rfl, rfl, rfl, rfl, rfl⟩

@[simp] theorem report_keeps (k : ErrorKind) (port : Option PortId) (id : Ident) (s : State) :
      (report k port id s).opState = s.opState ∧ (report k port id s).commandCode = s.commandCode ∧
      (report k port id s).commandArg = s.commandArg ∧ (report k port id s).commandRefused = s.commandRefused ∧
      (report k port id s).farSource = s.farSource ∧ (report k port id s).mgmtQueue = s.mgmtQueue ∧
      (report k port id s).mgmtSlots = s.mgmtSlots ∧ (report k port id s).sources = s.sources ∧
      (report k port id s).banks = s.banks ∧ (report k port id s).activeBank = s.activeBank ∧
      (report k port id s).swapCount = s.swapCount ∧ (report k port id s).timeoutLimits = s.timeoutLimits ∧
      (report k port id s).quarantineLimit = s.quarantineLimit ∧ (report k port id s).strapPins = s.strapPins ∧
      (report k port id s).tags = s.tags ∧ (report k port id s).backlog = s.backlog ∧
      (report k port id s).forwardQueue = s.forwardQueue ∧ (report k port id s).headPhase = s.headPhase ∧
      (report k port id s).slots = s.slots ∧ (report k port id s).lists = s.lists ∧
      (report k port id s).tick = s.tick ∧ (report k port id s).rqLink = s.rqLink ∧
      (report k port id s).rsLink = s.rsLink ∧ (report k port id s).rqCredits = s.rqCredits ∧
      (report k port id s).rsCredits = s.rsCredits ∧ (report k port id s).trafficQueue = s.trafficQueue ∧
      (report k port id s).malformedList = s.malformedList ∧ (report k port id s).roomPointer = s.roomPointer ∧
      (report k port id s).ingress = s.ingress ∧ (report k port id s).rqWire = s.rqWire ∧
      (report k port id s).rsWire = s.rsWire ∧ (report k port id s).pending = s.pending := by
  unfold report; repeat' split
  all_goals simp

/-- A report made in HALTED leaves no halt request waiting that did not wait before (R155). -/
theorem report_haltRequested_of_halted (k : ErrorKind) (port : Option PortId) (id : Ident) {s : State}
    (h : s.opState = .halted) : (report k port id s).haltRequested = s.haltRequested := by
  unfold report reportUnmasked
  split <;> simp [h]

end Sys2Proof.Machine
end

