-- ==== Sys2Proof/Laws/Frames.lean ====
section
/-! SUPPORT. What each shared operation leaves unchanged: its frame, stated once. -/

namespace Sys2Proof.Machine

/-- A quantity that every step of a fold keeps is kept by the fold. -/
theorem foldl_keeps {α β γ : Type} {f : α → β} {g : α → γ → α} (h : ∀ s x, f (g s x) = f s) (l : List γ)
    (s : α) : f (l.foldl g s) = f s := by
  induction l generalizing s with
  | nil => rfl
  | cons x l ih => rw [List.foldl_cons, ih, h]

@[simp] theorem removeHead_keeps (s : State) :
      (removeHead s).opState = s.opState ∧ (removeHead s).commandCode = s.commandCode ∧
      (removeHead s).commandArg = s.commandArg ∧ (removeHead s).commandRefused = s.commandRefused ∧
      (removeHead s).farSource = s.farSource ∧ (removeHead s).mgmtQueue = s.mgmtQueue ∧
      (removeHead s).mgmtSlots = s.mgmtSlots ∧ (removeHead s).haltRequested = s.haltRequested ∧
      (removeHead s).sources = s.sources ∧ (removeHead s).banks = s.banks ∧
      (removeHead s).activeBank = s.activeBank ∧ (removeHead s).swapCount = s.swapCount ∧
      (removeHead s).timeoutLimits = s.timeoutLimits ∧ (removeHead s).quarantineLimit = s.quarantineLimit ∧
      (removeHead s).strapPins = s.strapPins ∧ (removeHead s).tags = s.tags ∧
      (removeHead s).backlog = s.backlog ∧ (removeHead s).slots = s.slots ∧
      (removeHead s).lists = s.lists ∧ (removeHead s).tick = s.tick ∧
      (removeHead s).rqLink = s.rqLink ∧ (removeHead s).rsLink = s.rsLink ∧
      (removeHead s).rqCredits = s.rqCredits ∧ (removeHead s).rsCredits = s.rsCredits ∧
      (removeHead s).trafficQueue = s.trafficQueue ∧ (removeHead s).malformedList = s.malformedList ∧
      (removeHead s).roomPointer = s.roomPointer ∧ (removeHead s).ingress = s.ingress ∧
      (removeHead s).err = s.err ∧ (removeHead s).alert = s.alert ∧
      (removeHead s).rsWire = s.rsWire ∧ (removeHead s).pending = s.pending := by
  unfold removeHead
  simp

@[simp] theorem leaveActive_keeps (t : PoolTag) (x : TagState) (s : State) :
      (leaveActive t x s).commandCode = s.commandCode ∧ (leaveActive t x s).commandArg = s.commandArg ∧
      (leaveActive t x s).commandRefused = s.commandRefused ∧ (leaveActive t x s).farSource = s.farSource ∧
      (leaveActive t x s).mgmtQueue = s.mgmtQueue ∧ (leaveActive t x s).mgmtSlots = s.mgmtSlots ∧
      (leaveActive t x s).haltRequested = s.haltRequested ∧ (leaveActive t x s).sources = s.sources ∧
      (leaveActive t x s).banks = s.banks ∧ (leaveActive t x s).activeBank = s.activeBank ∧
      (leaveActive t x s).swapCount = s.swapCount ∧ (leaveActive t x s).timeoutLimits = s.timeoutLimits ∧
      (leaveActive t x s).quarantineLimit = s.quarantineLimit ∧ (leaveActive t x s).strapPins = s.strapPins ∧
      (leaveActive t x s).backlog = s.backlog ∧ (leaveActive t x s).forwardQueue = s.forwardQueue ∧
      (leaveActive t x s).headPhase = s.headPhase ∧ (leaveActive t x s).slots = s.slots ∧
      (leaveActive t x s).lists = s.lists ∧ (leaveActive t x s).tick = s.tick ∧
      (leaveActive t x s).rqLink = s.rqLink ∧ (leaveActive t x s).rsLink = s.rsLink ∧
      (leaveActive t x s).rqCredits = s.rqCredits ∧ (leaveActive t x s).rsCredits = s.rsCredits ∧
      (leaveActive t x s).trafficQueue = s.trafficQueue ∧ (leaveActive t x s).malformedList = s.malformedList ∧
      (leaveActive t x s).roomPointer = s.roomPointer ∧ (leaveActive t x s).ingress = s.ingress ∧
      (leaveActive t x s).err = s.err ∧ (leaveActive t x s).alert = s.alert ∧
      (leaveActive t x s).rqWire = s.rqWire ∧ (leaveActive t x s).rsWire = s.rsWire ∧
      (leaveActive t x s).pending = s.pending := by
  unfold leaveActive
  simp

@[simp] theorem placeFail_keeps (a : BacklogAnswer) (s : State) :
      (placeFail a s).opState = s.opState ∧ (placeFail a s).commandCode = s.commandCode ∧
      (placeFail a s).commandArg = s.commandArg ∧ (placeFail a s).commandRefused = s.commandRefused ∧
      (placeFail a s).farSource = s.farSource ∧ (placeFail a s).mgmtQueue = s.mgmtQueue ∧
      (placeFail a s).mgmtSlots = s.mgmtSlots ∧ (placeFail a s).haltRequested = s.haltRequested ∧
      (placeFail a s).sources = s.sources ∧ (placeFail a s).banks = s.banks ∧
      (placeFail a s).activeBank = s.activeBank ∧ (placeFail a s).swapCount = s.swapCount ∧
      (placeFail a s).timeoutLimits = s.timeoutLimits ∧ (placeFail a s).quarantineLimit = s.quarantineLimit ∧
      (placeFail a s).strapPins = s.strapPins ∧ (placeFail a s).tags = s.tags ∧
      (placeFail a s).forwardQueue = s.forwardQueue ∧ (placeFail a s).headPhase = s.headPhase ∧
      (placeFail a s).slots = s.slots ∧ (placeFail a s).lists = s.lists ∧
      (placeFail a s).tick = s.tick ∧ (placeFail a s).rqLink = s.rqLink ∧
      (placeFail a s).rsLink = s.rsLink ∧ (placeFail a s).rqCredits = s.rqCredits ∧
      (placeFail a s).rsCredits = s.rsCredits ∧ (placeFail a s).malformedList = s.malformedList ∧
      (placeFail a s).roomPointer = s.roomPointer ∧ (placeFail a s).ingress = s.ingress ∧
      (placeFail a s).err = s.err ∧ (placeFail a s).alert = s.alert ∧
      (placeFail a s).rqWire = s.rqWire ∧ (placeFail a s).rsWire = s.rsWire ∧
      (placeFail a s).pending = s.pending := by
  unfold placeFail; repeat' split
  all_goals simp

@[simp] theorem answerEntry_keeps (r : ActiveRec) (ans : Option Status) (s : State) :
      (answerEntry r ans s).opState = s.opState ∧ (answerEntry r ans s).commandCode = s.commandCode ∧
      (answerEntry r ans s).commandArg = s.commandArg ∧ (answerEntry r ans s).commandRefused = s.commandRefused ∧
      (answerEntry r ans s).farSource = s.farSource ∧ (answerEntry r ans s).mgmtQueue = s.mgmtQueue ∧
      (answerEntry r ans s).mgmtSlots = s.mgmtSlots ∧ (answerEntry r ans s).haltRequested = s.haltRequested ∧
      (answerEntry r ans s).banks = s.banks ∧ (answerEntry r ans s).activeBank = s.activeBank ∧
      (answerEntry r ans s).swapCount = s.swapCount ∧ (answerEntry r ans s).timeoutLimits = s.timeoutLimits ∧
      (answerEntry r ans s).quarantineLimit = s.quarantineLimit ∧ (answerEntry r ans s).strapPins = s.strapPins ∧
      (answerEntry r ans s).tags = s.tags ∧ (answerEntry r ans s).forwardQueue = s.forwardQueue ∧
      (answerEntry r ans s).headPhase = s.headPhase ∧ (answerEntry r ans s).tick = s.tick ∧
      (answerEntry r ans s).rqLink = s.rqLink ∧ (answerEntry r ans s).rsLink = s.rsLink ∧
      (answerEntry r ans s).rqCredits = s.rqCredits ∧ (answerEntry r ans s).rsCredits = s.rsCredits ∧
      (answerEntry r ans s).malformedList = s.malformedList ∧ (answerEntry r ans s).roomPointer = s.roomPointer ∧
      (answerEntry r ans s).ingress = s.ingress ∧ (answerEntry r ans s).err = s.err ∧
      (answerEntry r ans s).alert = s.alert ∧ (answerEntry r ans s).rqWire = s.rqWire ∧
      (answerEntry r ans s).rsWire = s.rsWire ∧ (answerEntry r ans s).pending = s.pending := by
  unfold answerEntry; repeat' split
  all_goals simp

@[simp] theorem terminate_keeps (t : PoolTag) (ans : Option Status) (dest : TagDest) (s : State) :
      (terminate t ans dest s).commandCode = s.commandCode ∧ (terminate t ans dest s).commandArg = s.commandArg ∧
      (terminate t ans dest s).commandRefused = s.commandRefused ∧ (terminate t ans dest s).farSource = s.farSource ∧
      (terminate t ans dest s).mgmtQueue = s.mgmtQueue ∧ (terminate t ans dest s).mgmtSlots = s.mgmtSlots ∧
      (terminate t ans dest s).haltRequested = s.haltRequested ∧ (terminate t ans dest s).banks = s.banks ∧
      (terminate t ans dest s).activeBank = s.activeBank ∧ (terminate t ans dest s).swapCount = s.swapCount ∧
      (terminate t ans dest s).timeoutLimits = s.timeoutLimits ∧ (terminate t ans dest s).quarantineLimit = s.quarantineLimit ∧
      (terminate t ans dest s).strapPins = s.strapPins ∧ (terminate t ans dest s).forwardQueue = s.forwardQueue ∧
      (terminate t ans dest s).headPhase = s.headPhase ∧ (terminate t ans dest s).tick = s.tick ∧
      (terminate t ans dest s).rqLink = s.rqLink ∧ (terminate t ans dest s).rsLink = s.rsLink ∧
      (terminate t ans dest s).rqCredits = s.rqCredits ∧ (terminate t ans dest s).rsCredits = s.rsCredits ∧
      (terminate t ans dest s).malformedList = s.malformedList ∧ (terminate t ans dest s).roomPointer = s.roomPointer ∧
      (terminate t ans dest s).ingress = s.ingress ∧ (terminate t ans dest s).err = s.err ∧
      (terminate t ans dest s).alert = s.alert ∧ (terminate t ans dest s).rqWire = s.rqWire ∧
      (terminate t ans dest s).rsWire = s.rsWire ∧ (terminate t ans dest s).pending = s.pending := by
  unfold terminate; repeat' split
  all_goals simp

@[simp] theorem clearCounts_keeps (s : State) :
      (clearCounts s).opState = s.opState ∧ (clearCounts s).commandCode = s.commandCode ∧
      (clearCounts s).commandArg = s.commandArg ∧ (clearCounts s).commandRefused = s.commandRefused ∧
      (clearCounts s).farSource = s.farSource ∧ (clearCounts s).mgmtQueue = s.mgmtQueue ∧
      (clearCounts s).mgmtSlots = s.mgmtSlots ∧ (clearCounts s).haltRequested = s.haltRequested ∧
      (clearCounts s).banks = s.banks ∧ (clearCounts s).activeBank = s.activeBank ∧
      (clearCounts s).swapCount = s.swapCount ∧ (clearCounts s).timeoutLimits = s.timeoutLimits ∧
      (clearCounts s).quarantineLimit = s.quarantineLimit ∧ (clearCounts s).strapPins = s.strapPins ∧
      (clearCounts s).tags = s.tags ∧ (clearCounts s).backlog = s.backlog ∧
      (clearCounts s).forwardQueue = s.forwardQueue ∧ (clearCounts s).headPhase = s.headPhase ∧
      (clearCounts s).slots = s.slots ∧ (clearCounts s).lists = s.lists ∧
      (clearCounts s).tick = s.tick ∧ (clearCounts s).rqLink = s.rqLink ∧
      (clearCounts s).rsLink = s.rsLink ∧ (clearCounts s).rqCredits = s.rqCredits ∧
      (clearCounts s).rsCredits = s.rsCredits ∧ (clearCounts s).trafficQueue = s.trafficQueue ∧
      (clearCounts s).malformedList = s.malformedList ∧ (clearCounts s).roomPointer = s.roomPointer ∧
      (clearCounts s).ingress = s.ingress ∧ (clearCounts s).err = s.err ∧
      (clearCounts s).alert = s.alert ∧ (clearCounts s).rqWire = s.rqWire ∧
      (clearCounts s).rsWire = s.rsWire ∧ (clearCounts s).pending = s.pending := by
  unfold clearCounts
  refine ⟨?_, ?_, ?_, ?_, ?_, ?_, ?_, ?_, ?_, ?_, ?_, ?_, ?_, ?_, ?_, ?_, ?_, ?_, ?_, ?_, ?_, ?_, ?_, ?_, ?_, ?_, ?_, ?_, ?_, ?_, ?_, ?_, ?_, ?_⟩ <;>
  · refine foldl_keeps (fun s t => ?_) _ s
    simp

@[simp] theorem terminateAll_keeps (which : ActiveRec → Bool) (ans : Option Status) (dest : TagDest) (s : State) :
      (terminateAll which ans dest s).commandCode = s.commandCode ∧ (terminateAll which ans dest s).commandArg = s.commandArg ∧
      (terminateAll which ans dest s).commandRefused = s.commandRefused ∧ (terminateAll which ans dest s).farSource = s.farSource ∧
      (terminateAll which ans dest s).mgmtQueue = s.mgmtQueue ∧ (terminateAll which ans dest s).mgmtSlots = s.mgmtSlots ∧
      (terminateAll which ans dest s).haltRequested = s.haltRequested ∧ (terminateAll which ans dest s).banks = s.banks ∧
      (terminateAll which ans dest s).activeBank = s.activeBank ∧ (terminateAll which ans dest s).swapCount = s.swapCount ∧
      (terminateAll which ans dest s).timeoutLimits = s.timeoutLimits ∧ (terminateAll which ans dest s).quarantineLimit = s.quarantineLimit ∧
      (terminateAll which ans dest s).strapPins = s.strapPins ∧ (terminateAll which ans dest s).forwardQueue = s.forwardQueue ∧
      (terminateAll which ans dest s).headPhase = s.headPhase ∧ (terminateAll which ans dest s).tick = s.tick ∧
      (terminateAll which ans dest s).rqLink = s.rqLink ∧ (terminateAll which ans dest s).rsLink = s.rsLink ∧
      (terminateAll which ans dest s).rqCredits = s.rqCredits ∧ (terminateAll which ans dest s).rsCredits = s.rsCredits ∧
      (terminateAll which ans dest s).malformedList = s.malformedList ∧ (terminateAll which ans dest s).roomPointer = s.roomPointer ∧
      (terminateAll which ans dest s).ingress = s.ingress ∧ (terminateAll which ans dest s).err = s.err ∧
      (terminateAll which ans dest s).alert = s.alert ∧ (terminateAll which ans dest s).rqWire = s.rqWire ∧
      (terminateAll which ans dest s).rsWire = s.rsWire ∧ (terminateAll which ans dest s).pending = s.pending := by
  unfold terminateAll
  refine ⟨?_, ?_, ?_, ?_, ?_, ?_, ?_, ?_, ?_, ?_, ?_, ?_, ?_, ?_, ?_, ?_, ?_, ?_, ?_, ?_, ?_, ?_, ?_, ?_, ?_, ?_, ?_, ?_⟩ <;>
  · refine foldl_keeps (fun s t => ?_) _ s
    repeat' split
    all_goals simp

@[simp] theorem freeQuarantined_keeps (s : State) :
      (freeQuarantined s).opState = s.opState ∧ (freeQuarantined s).commandCode = s.commandCode ∧
      (freeQuarantined s).commandArg = s.commandArg ∧ (freeQuarantined s).commandRefused = s.commandRefused ∧
      (freeQuarantined s).farSource = s.farSource ∧ (freeQuarantined s).mgmtQueue = s.mgmtQueue ∧
      (freeQuarantined s).mgmtSlots = s.mgmtSlots ∧ (freeQuarantined s).haltRequested = s.haltRequested ∧
      (freeQuarantined s).sources = s.sources ∧ (freeQuarantined s).banks = s.banks ∧
      (freeQuarantined s).activeBank = s.activeBank ∧ (freeQuarantined s).swapCount = s.swapCount ∧
      (freeQuarantined s).timeoutLimits = s.timeoutLimits ∧ (freeQuarantined s).quarantineLimit = s.quarantineLimit ∧
      (freeQuarantined s).strapPins = s.strapPins ∧ (freeQuarantined s).backlog = s.backlog ∧
      (freeQuarantined s).forwardQueue = s.forwardQueue ∧ (freeQuarantined s).headPhase = s.headPhase ∧
      (freeQuarantined s).slots = s.slots ∧ (freeQuarantined s).lists = s.lists ∧
      (freeQuarantined s).tick = s.tick ∧ (freeQuarantined s).rqLink = s.rqLink ∧
      (freeQuarantined s).rsLink = s.rsLink ∧ (freeQuarantined s).rqCredits = s.rqCredits ∧
      (freeQuarantined s).rsCredits = s.rsCredits ∧ (freeQuarantined s).trafficQueue = s.trafficQueue ∧
      (freeQuarantined s).malformedList = s.malformedList ∧ (freeQuarantined s).roomPointer = s.roomPointer ∧
      (freeQuarantined s).ingress = s.ingress ∧ (freeQuarantined s).err = s.err ∧
      (freeQuarantined s).alert = s.alert ∧ (freeQuarantined s).rqWire = s.rqWire ∧
      (freeQuarantined s).rsWire = s.rsWire ∧ (freeQuarantined s).pending = s.pending := by
  unfold freeQuarantined
  refine ⟨?_, ?_, ?_, ?_, ?_, ?_, ?_, ?_, ?_, ?_, ?_, ?_, ?_, ?_, ?_, ?_, ?_, ?_, ?_, ?_, ?_, ?_, ?_, ?_, ?_, ?_, ?_, ?_, ?_, ?_, ?_, ?_, ?_, ?_⟩ <;>
  · refine foldl_keeps (fun s t => ?_) _ s
    split <;> simp

@[simp] theorem linkDownHead_keeps (req : Request) (cls : IssueClass) (s : State) :
      (linkDownHead req cls s).opState = s.opState ∧ (linkDownHead req cls s).commandCode = s.commandCode ∧
      (linkDownHead req cls s).commandArg = s.commandArg ∧ (linkDownHead req cls s).commandRefused = s.commandRefused ∧
      (linkDownHead req cls s).farSource = s.farSource ∧ (linkDownHead req cls s).mgmtQueue = s.mgmtQueue ∧
      (linkDownHead req cls s).mgmtSlots = s.mgmtSlots ∧ (linkDownHead req cls s).sources = s.sources ∧
      (linkDownHead req cls s).banks = s.banks ∧ (linkDownHead req cls s).activeBank = s.activeBank ∧
      (linkDownHead req cls s).swapCount = s.swapCount ∧ (linkDownHead req cls s).timeoutLimits = s.timeoutLimits ∧
      (linkDownHead req cls s).quarantineLimit = s.quarantineLimit ∧ (linkDownHead req cls s).strapPins = s.strapPins ∧
      (linkDownHead req cls s).tags = s.tags ∧ (linkDownHead req cls s).backlog = s.backlog ∧
      (linkDownHead req cls s).slots = s.slots ∧ (linkDownHead req cls s).lists = s.lists ∧
      (linkDownHead req cls s).tick = s.tick ∧ (linkDownHead req cls s).rqLink = s.rqLink ∧
      (linkDownHead req cls s).rsLink = s.rsLink ∧ (linkDownHead req cls s).rqCredits = s.rqCredits ∧
      (linkDownHead req cls s).rsCredits = s.rsCredits ∧ (linkDownHead req cls s).trafficQueue = s.trafficQueue ∧
      (linkDownHead req cls s).malformedList = s.malformedList ∧ (linkDownHead req cls s).roomPointer = s.roomPointer ∧
      (linkDownHead req cls s).ingress = s.ingress ∧ (linkDownHead req cls s).rsWire = s.rsWire ∧
      (linkDownHead req cls s).pending = s.pending := by
  unfold linkDownHead; repeat' split
  all_goals simp

@[simp] theorem linkDownClassified_keeps (s : State) :
      (linkDownClassified s).opState = s.opState ∧ (linkDownClassified s).commandCode = s.commandCode ∧
      (linkDownClassified s).commandArg = s.commandArg ∧ (linkDownClassified s).commandRefused = s.commandRefused ∧
      (linkDownClassified s).farSource = s.farSource ∧ (linkDownClassified s).mgmtQueue = s.mgmtQueue ∧
      (linkDownClassified s).mgmtSlots = s.mgmtSlots ∧ (linkDownClassified s).sources = s.sources ∧
      (linkDownClassified s).banks = s.banks ∧ (linkDownClassified s).activeBank = s.activeBank ∧
      (linkDownClassified s).swapCount = s.swapCount ∧ (linkDownClassified s).timeoutLimits = s.timeoutLimits ∧
      (linkDownClassified s).quarantineLimit = s.quarantineLimit ∧ (linkDownClassified s).strapPins = s.strapPins ∧
      (linkDownClassified s).tags = s.tags ∧ (linkDownClassified s).backlog = s.backlog ∧
      (linkDownClassified s).slots = s.slots ∧ (linkDownClassified s).lists = s.lists ∧
      (linkDownClassified s).tick = s.tick ∧ (linkDownClassified s).rqLink = s.rqLink ∧
      (linkDownClassified s).rsLink = s.rsLink ∧ (linkDownClassified s).rqCredits = s.rqCredits ∧
      (linkDownClassified s).rsCredits = s.rsCredits ∧ (linkDownClassified s).trafficQueue = s.trafficQueue ∧
      (linkDownClassified s).malformedList = s.malformedList ∧ (linkDownClassified s).roomPointer = s.roomPointer ∧
      (linkDownClassified s).ingress = s.ingress ∧ (linkDownClassified s).rsWire = s.rsWire ∧
      (linkDownClassified s).pending = s.pending := by
  unfold linkDownClassified; repeat' split
  all_goals simp

@[simp] theorem refuseHead_keeps (req : Request) (k : ErrorKind) (st : Status) (s : State) :
      (refuseHead req k st s).opState = s.opState ∧ (refuseHead req k st s).commandCode = s.commandCode ∧
      (refuseHead req k st s).commandArg = s.commandArg ∧ (refuseHead req k st s).commandRefused = s.commandRefused ∧
      (refuseHead req k st s).farSource = s.farSource ∧ (refuseHead req k st s).mgmtQueue = s.mgmtQueue ∧
      (refuseHead req k st s).mgmtSlots = s.mgmtSlots ∧ (refuseHead req k st s).sources = s.sources ∧
      (refuseHead req k st s).banks = s.banks ∧ (refuseHead req k st s).activeBank = s.activeBank ∧
      (refuseHead req k st s).swapCount = s.swapCount ∧ (refuseHead req k st s).timeoutLimits = s.timeoutLimits ∧
      (refuseHead req k st s).quarantineLimit = s.quarantineLimit ∧ (refuseHead req k st s).strapPins = s.strapPins ∧
      (refuseHead req k st s).tags = s.tags ∧ (refuseHead req k st s).backlog = s.backlog ∧
      (refuseHead req k st s).slots = s.slots ∧ (refuseHead req k st s).lists = s.lists ∧
      (refuseHead req k st s).tick = s.tick ∧ (refuseHead req k st s).rqLink = s.rqLink ∧
      (refuseHead req k st s).rsLink = s.rsLink ∧ (refuseHead req k st s).rqCredits = s.rqCredits ∧
      (refuseHead req k st s).rsCredits = s.rsCredits ∧ (refuseHead req k st s).trafficQueue = s.trafficQueue ∧
      (refuseHead req k st s).malformedList = s.malformedList ∧ (refuseHead req k st s).roomPointer = s.roomPointer ∧
      (refuseHead req k st s).ingress = s.ingress ∧ (refuseHead req k st s).rsWire = s.rsWire ∧
      (refuseHead req k st s).pending = s.pending := by
  unfold refuseHead; repeat' split
  all_goals simp

@[simp] theorem classifyHead_keeps (req : Request) (s : State) :
      (classifyHead req s).opState = s.opState ∧ (classifyHead req s).commandCode = s.commandCode ∧
      (classifyHead req s).commandArg = s.commandArg ∧ (classifyHead req s).commandRefused = s.commandRefused ∧
      (classifyHead req s).farSource = s.farSource ∧ (classifyHead req s).mgmtQueue = s.mgmtQueue ∧
      (classifyHead req s).mgmtSlots = s.mgmtSlots ∧ (classifyHead req s).sources = s.sources ∧
      (classifyHead req s).banks = s.banks ∧ (classifyHead req s).activeBank = s.activeBank ∧
      (classifyHead req s).swapCount = s.swapCount ∧ (classifyHead req s).timeoutLimits = s.timeoutLimits ∧
      (classifyHead req s).quarantineLimit = s.quarantineLimit ∧ (classifyHead req s).strapPins = s.strapPins ∧
      (classifyHead req s).tags = s.tags ∧ (classifyHead req s).backlog = s.backlog ∧
      (classifyHead req s).slots = s.slots ∧ (classifyHead req s).lists = s.lists ∧
      (classifyHead req s).tick = s.tick ∧ (classifyHead req s).rqLink = s.rqLink ∧
      (classifyHead req s).rsLink = s.rsLink ∧ (classifyHead req s).rqCredits = s.rqCredits ∧
      (classifyHead req s).rsCredits = s.rsCredits ∧ (classifyHead req s).trafficQueue = s.trafficQueue ∧
      (classifyHead req s).malformedList = s.malformedList ∧ (classifyHead req s).roomPointer = s.roomPointer ∧
      (classifyHead req s).ingress = s.ingress ∧ (classifyHead req s).rsWire = s.rsWire ∧
      (classifyHead req s).pending = s.pending := by
  unfold classifyHead; repeat' split
  all_goals simp

@[simp] theorem sendRequest_keeps (req : Request) (c : Classified) (tag : BitVec 8) (s : State) :
      (sendRequest req c tag s).opState = s.opState ∧ (sendRequest req c tag s).commandCode = s.commandCode ∧
      (sendRequest req c tag s).commandArg = s.commandArg ∧ (sendRequest req c tag s).commandRefused = s.commandRefused ∧
      (sendRequest req c tag s).farSource = s.farSource ∧ (sendRequest req c tag s).mgmtQueue = s.mgmtQueue ∧
      (sendRequest req c tag s).mgmtSlots = s.mgmtSlots ∧ (sendRequest req c tag s).haltRequested = s.haltRequested ∧
      (sendRequest req c tag s).sources = s.sources ∧ (sendRequest req c tag s).banks = s.banks ∧
      (sendRequest req c tag s).activeBank = s.activeBank ∧ (sendRequest req c tag s).swapCount = s.swapCount ∧
      (sendRequest req c tag s).timeoutLimits = s.timeoutLimits ∧ (sendRequest req c tag s).quarantineLimit = s.quarantineLimit ∧
      (sendRequest req c tag s).strapPins = s.strapPins ∧ (sendRequest req c tag s).tags = s.tags ∧
      (sendRequest req c tag s).backlog = s.backlog ∧ (sendRequest req c tag s).forwardQueue = s.forwardQueue ∧
      (sendRequest req c tag s).headPhase = s.headPhase ∧ (sendRequest req c tag s).slots = s.slots ∧
      (sendRequest req c tag s).lists = s.lists ∧ (sendRequest req c tag s).tick = s.tick ∧
      (sendRequest req c tag s).rqLink = s.rqLink ∧ (sendRequest req c tag s).rsLink = s.rsLink ∧
      (sendRequest req c tag s).rqCredits = s.rqCredits ∧ (sendRequest req c tag s).trafficQueue = s.trafficQueue ∧
      (sendRequest req c tag s).malformedList = s.malformedList ∧ (sendRequest req c tag s).roomPointer = s.roomPointer ∧
      (sendRequest req c tag s).ingress = s.ingress ∧ (sendRequest req c tag s).err = s.err ∧
      (sendRequest req c tag s).alert = s.alert ∧ (sendRequest req c tag s).rqWire = s.rqWire ∧
      (sendRequest req c tag s).pending = s.pending := by
  unfold sendRequest
  simp

@[simp] theorem countIssue_keeps (req : Request) (c : Classified) (s : State) :
      (countIssue req c s).opState = s.opState ∧ (countIssue req c s).commandCode = s.commandCode ∧
      (countIssue req c s).commandArg = s.commandArg ∧ (countIssue req c s).commandRefused = s.commandRefused ∧
      (countIssue req c s).farSource = s.farSource ∧ (countIssue req c s).mgmtQueue = s.mgmtQueue ∧
      (countIssue req c s).mgmtSlots = s.mgmtSlots ∧ (countIssue req c s).haltRequested = s.haltRequested ∧
      (countIssue req c s).banks = s.banks ∧ (countIssue req c s).activeBank = s.activeBank ∧
      (countIssue req c s).swapCount = s.swapCount ∧ (countIssue req c s).timeoutLimits = s.timeoutLimits ∧
      (countIssue req c s).quarantineLimit = s.quarantineLimit ∧ (countIssue req c s).strapPins = s.strapPins ∧
      (countIssue req c s).tags = s.tags ∧ (countIssue req c s).backlog = s.backlog ∧
      (countIssue req c s).forwardQueue = s.forwardQueue ∧ (countIssue req c s).headPhase = s.headPhase ∧
      (countIssue req c s).slots = s.slots ∧ (countIssue req c s).lists = s.lists ∧
      (countIssue req c s).tick = s.tick ∧ (countIssue req c s).rqLink = s.rqLink ∧
      (countIssue req c s).rsLink = s.rsLink ∧ (countIssue req c s).rqCredits = s.rqCredits ∧
      (countIssue req c s).rsCredits = s.rsCredits ∧ (countIssue req c s).trafficQueue = s.trafficQueue ∧
      (countIssue req c s).malformedList = s.malformedList ∧ (countIssue req c s).roomPointer = s.roomPointer ∧
      (countIssue req c s).ingress = s.ingress ∧ (countIssue req c s).err = s.err ∧
      (countIssue req c s).alert = s.alert ∧ (countIssue req c s).rqWire = s.rqWire ∧
      (countIssue req c s).rsWire = s.rsWire ∧ (countIssue req c s).pending = s.pending := by
  unfold countIssue; repeat' split
  all_goals simp

@[simp] theorem issueWith_keeps (req : Request) (c : Classified) (s : State) (g : Grant) :
      (issueWith req c s g).opState = s.opState ∧ (issueWith req c s g).commandCode = s.commandCode ∧
      (issueWith req c s g).commandArg = s.commandArg ∧ (issueWith req c s g).commandRefused = s.commandRefused ∧
      (issueWith req c s g).farSource = s.farSource ∧ (issueWith req c s g).mgmtQueue = s.mgmtQueue ∧
      (issueWith req c s g).mgmtSlots = s.mgmtSlots ∧ (issueWith req c s g).haltRequested = s.haltRequested ∧
      (issueWith req c s g).banks = s.banks ∧ (issueWith req c s g).activeBank = s.activeBank ∧
      (issueWith req c s g).swapCount = s.swapCount ∧ (issueWith req c s g).timeoutLimits = s.timeoutLimits ∧
      (issueWith req c s g).quarantineLimit = s.quarantineLimit ∧ (issueWith req c s g).strapPins = s.strapPins ∧
      (issueWith req c s g).backlog = s.backlog ∧ (issueWith req c s g).tick = s.tick ∧
      (issueWith req c s g).rqLink = s.rqLink ∧ (issueWith req c s g).rsLink = s.rsLink ∧
      (issueWith req c s g).rqCredits = s.rqCredits ∧ (issueWith req c s g).trafficQueue = s.trafficQueue ∧
      (issueWith req c s g).malformedList = s.malformedList ∧ (issueWith req c s g).roomPointer = s.roomPointer ∧
      (issueWith req c s g).ingress = s.ingress ∧ (issueWith req c s g).err = s.err ∧
      (issueWith req c s g).alert = s.alert ∧ (issueWith req c s g).pending = s.pending := by
  cases g <;> simp [issueWith]

@[simp] theorem issueNow_keeps (s : State) :
      (issueNow s).opState = s.opState ∧ (issueNow s).commandCode = s.commandCode ∧
      (issueNow s).commandArg = s.commandArg ∧ (issueNow s).commandRefused = s.commandRefused ∧
      (issueNow s).farSource = s.farSource ∧ (issueNow s).mgmtQueue = s.mgmtQueue ∧
      (issueNow s).mgmtSlots = s.mgmtSlots ∧ (issueNow s).haltRequested = s.haltRequested ∧
      (issueNow s).banks = s.banks ∧ (issueNow s).activeBank = s.activeBank ∧
      (issueNow s).swapCount = s.swapCount ∧ (issueNow s).timeoutLimits = s.timeoutLimits ∧
      (issueNow s).quarantineLimit = s.quarantineLimit ∧ (issueNow s).strapPins = s.strapPins ∧
      (issueNow s).backlog = s.backlog ∧ (issueNow s).tick = s.tick ∧
      (issueNow s).rqLink = s.rqLink ∧ (issueNow s).rsLink = s.rsLink ∧
      (issueNow s).rqCredits = s.rqCredits ∧ (issueNow s).trafficQueue = s.trafficQueue ∧
      (issueNow s).malformedList = s.malformedList ∧ (issueNow s).roomPointer = s.roomPointer ∧
      (issueNow s).ingress = s.ingress ∧ (issueNow s).err = s.err ∧
      (issueNow s).alert = s.alert ∧ (issueNow s).pending = s.pending := by
  unfold issueNow; repeat' split
  all_goals simp

@[simp] theorem setDelivered_keeps (t : PoolTag) (s : State) :
      (setDelivered t s).opState = s.opState ∧ (setDelivered t s).commandCode = s.commandCode ∧
      (setDelivered t s).commandArg = s.commandArg ∧ (setDelivered t s).commandRefused = s.commandRefused ∧
      (setDelivered t s).farSource = s.farSource ∧ (setDelivered t s).mgmtQueue = s.mgmtQueue ∧
      (setDelivered t s).mgmtSlots = s.mgmtSlots ∧ (setDelivered t s).haltRequested = s.haltRequested ∧
      (setDelivered t s).sources = s.sources ∧ (setDelivered t s).banks = s.banks ∧
      (setDelivered t s).activeBank = s.activeBank ∧ (setDelivered t s).swapCount = s.swapCount ∧
      (setDelivered t s).timeoutLimits = s.timeoutLimits ∧ (setDelivered t s).quarantineLimit = s.quarantineLimit ∧
      (setDelivered t s).strapPins = s.strapPins ∧ (setDelivered t s).backlog = s.backlog ∧
      (setDelivered t s).forwardQueue = s.forwardQueue ∧ (setDelivered t s).headPhase = s.headPhase ∧
      (setDelivered t s).slots = s.slots ∧ (setDelivered t s).lists = s.lists ∧
      (setDelivered t s).tick = s.tick ∧ (setDelivered t s).rqLink = s.rqLink ∧
      (setDelivered t s).rsLink = s.rsLink ∧ (setDelivered t s).rqCredits = s.rqCredits ∧
      (setDelivered t s).rsCredits = s.rsCredits ∧ (setDelivered t s).trafficQueue = s.trafficQueue ∧
      (setDelivered t s).malformedList = s.malformedList ∧ (setDelivered t s).roomPointer = s.roomPointer ∧
      (setDelivered t s).ingress = s.ingress ∧ (setDelivered t s).err = s.err ∧
      (setDelivered t s).alert = s.alert ∧ (setDelivered t s).rqWire = s.rqWire ∧
      (setDelivered t s).rsWire = s.rsWire ∧ (setDelivered t s).pending = s.pending := by
  unfold setDelivered; repeat' split
  all_goals simp

@[simp] theorem markDelivered_keeps (e : Element) (s : State) :
      (markDelivered e s).opState = s.opState ∧ (markDelivered e s).commandCode = s.commandCode ∧
      (markDelivered e s).commandArg = s.commandArg ∧ (markDelivered e s).commandRefused = s.commandRefused ∧
      (markDelivered e s).farSource = s.farSource ∧ (markDelivered e s).mgmtQueue = s.mgmtQueue ∧
      (markDelivered e s).mgmtSlots = s.mgmtSlots ∧ (markDelivered e s).haltRequested = s.haltRequested ∧
      (markDelivered e s).sources = s.sources ∧ (markDelivered e s).banks = s.banks ∧
      (markDelivered e s).activeBank = s.activeBank ∧ (markDelivered e s).swapCount = s.swapCount ∧
      (markDelivered e s).timeoutLimits = s.timeoutLimits ∧ (markDelivered e s).quarantineLimit = s.quarantineLimit ∧
      (markDelivered e s).strapPins = s.strapPins ∧ (markDelivered e s).backlog = s.backlog ∧
      (markDelivered e s).forwardQueue = s.forwardQueue ∧ (markDelivered e s).headPhase = s.headPhase ∧
      (markDelivered e s).slots = s.slots ∧ (markDelivered e s).lists = s.lists ∧
      (markDelivered e s).tick = s.tick ∧ (markDelivered e s).rqLink = s.rqLink ∧
      (markDelivered e s).rsLink = s.rsLink ∧ (markDelivered e s).rqCredits = s.rqCredits ∧
      (markDelivered e s).rsCredits = s.rsCredits ∧ (markDelivered e s).trafficQueue = s.trafficQueue ∧
      (markDelivered e s).malformedList = s.malformedList ∧ (markDelivered e s).roomPointer = s.roomPointer ∧
      (markDelivered e s).ingress = s.ingress ∧ (markDelivered e s).err = s.err ∧
      (markDelivered e s).alert = s.alert ∧ (markDelivered e s).rqWire = s.rqWire ∧
      (markDelivered e s).rsWire = s.rsWire ∧ (markDelivered e s).pending = s.pending := by
  unfold markDelivered; repeat' split
  all_goals simp

@[simp] theorem afterDrain_keeps (n : SourceId) (l : SlotId) (e : Element) (s : State) :
      (afterDrain n l e s).opState = s.opState ∧ (afterDrain n l e s).commandCode = s.commandCode ∧
      (afterDrain n l e s).commandArg = s.commandArg ∧ (afterDrain n l e s).commandRefused = s.commandRefused ∧
      (afterDrain n l e s).farSource = s.farSource ∧ (afterDrain n l e s).mgmtQueue = s.mgmtQueue ∧
      (afterDrain n l e s).mgmtSlots = s.mgmtSlots ∧ (afterDrain n l e s).haltRequested = s.haltRequested ∧
      (afterDrain n l e s).banks = s.banks ∧ (afterDrain n l e s).activeBank = s.activeBank ∧
      (afterDrain n l e s).swapCount = s.swapCount ∧ (afterDrain n l e s).timeoutLimits = s.timeoutLimits ∧
      (afterDrain n l e s).quarantineLimit = s.quarantineLimit ∧ (afterDrain n l e s).strapPins = s.strapPins ∧
      (afterDrain n l e s).backlog = s.backlog ∧ (afterDrain n l e s).forwardQueue = s.forwardQueue ∧
      (afterDrain n l e s).headPhase = s.headPhase ∧ (afterDrain n l e s).tick = s.tick ∧
      (afterDrain n l e s).rqLink = s.rqLink ∧ (afterDrain n l e s).rsLink = s.rsLink ∧
      (afterDrain n l e s).rqCredits = s.rqCredits ∧ (afterDrain n l e s).rsCredits = s.rsCredits ∧
      (afterDrain n l e s).trafficQueue = s.trafficQueue ∧ (afterDrain n l e s).malformedList = s.malformedList ∧
      (afterDrain n l e s).roomPointer = s.roomPointer ∧ (afterDrain n l e s).ingress = s.ingress ∧
      (afterDrain n l e s).err = s.err ∧ (afterDrain n l e s).alert = s.alert ∧
      (afterDrain n l e s).rqWire = s.rqWire ∧ (afterDrain n l e s).rsWire = s.rsWire ∧
      (afterDrain n l e s).pending = s.pending := by
  unfold afterDrain; repeat' split
  all_goals simp

@[simp] theorem drainHead_keeps (n : SourceId) (s : State) :
      (drainHead n s).opState = s.opState ∧ (drainHead n s).commandCode = s.commandCode ∧
      (drainHead n s).commandArg = s.commandArg ∧ (drainHead n s).commandRefused = s.commandRefused ∧
      (drainHead n s).farSource = s.farSource ∧ (drainHead n s).mgmtQueue = s.mgmtQueue ∧
      (drainHead n s).mgmtSlots = s.mgmtSlots ∧ (drainHead n s).haltRequested = s.haltRequested ∧
      (drainHead n s).banks = s.banks ∧ (drainHead n s).activeBank = s.activeBank ∧
      (drainHead n s).swapCount = s.swapCount ∧ (drainHead n s).timeoutLimits = s.timeoutLimits ∧
      (drainHead n s).quarantineLimit = s.quarantineLimit ∧ (drainHead n s).strapPins = s.strapPins ∧
      (drainHead n s).backlog = s.backlog ∧ (drainHead n s).forwardQueue = s.forwardQueue ∧
      (drainHead n s).headPhase = s.headPhase ∧ (drainHead n s).tick = s.tick ∧
      (drainHead n s).rqLink = s.rqLink ∧ (drainHead n s).rsLink = s.rsLink ∧
      (drainHead n s).rqCredits = s.rqCredits ∧ (drainHead n s).rsCredits = s.rsCredits ∧
      (drainHead n s).malformedList = s.malformedList ∧ (drainHead n s).roomPointer = s.roomPointer ∧
      (drainHead n s).ingress = s.ingress ∧ (drainHead n s).err = s.err ∧
      (drainHead n s).alert = s.alert ∧ (drainHead n s).rqWire = s.rqWire ∧
      (drainHead n s).rsWire = s.rsWire ∧ (drainHead n s).pending = s.pending := by
  unfold drainHead; repeat' split
  all_goals simp

@[simp] theorem endForwarded_keeps (r : ActiveRec) (s : State) :
      (endForwarded r s).opState = s.opState ∧ (endForwarded r s).commandCode = s.commandCode ∧
      (endForwarded r s).commandArg = s.commandArg ∧ (endForwarded r s).commandRefused = s.commandRefused ∧
      (endForwarded r s).farSource = s.farSource ∧ (endForwarded r s).mgmtQueue = s.mgmtQueue ∧
      (endForwarded r s).mgmtSlots = s.mgmtSlots ∧ (endForwarded r s).haltRequested = s.haltRequested ∧
      (endForwarded r s).banks = s.banks ∧ (endForwarded r s).activeBank = s.activeBank ∧
      (endForwarded r s).swapCount = s.swapCount ∧ (endForwarded r s).timeoutLimits = s.timeoutLimits ∧
      (endForwarded r s).quarantineLimit = s.quarantineLimit ∧ (endForwarded r s).strapPins = s.strapPins ∧
      (endForwarded r s).tags = s.tags ∧ (endForwarded r s).backlog = s.backlog ∧
      (endForwarded r s).forwardQueue = s.forwardQueue ∧ (endForwarded r s).headPhase = s.headPhase ∧
      (endForwarded r s).tick = s.tick ∧ (endForwarded r s).rqLink = s.rqLink ∧
      (endForwarded r s).rsLink = s.rsLink ∧ (endForwarded r s).rqCredits = s.rqCredits ∧
      (endForwarded r s).rsCredits = s.rsCredits ∧ (endForwarded r s).trafficQueue = s.trafficQueue ∧
      (endForwarded r s).malformedList = s.malformedList ∧ (endForwarded r s).roomPointer = s.roomPointer ∧
      (endForwarded r s).ingress = s.ingress ∧ (endForwarded r s).err = s.err ∧
      (endForwarded r s).alert = s.alert ∧ (endForwarded r s).rqWire = s.rqWire ∧
      (endForwarded r s).rsWire = s.rsWire ∧ (endForwarded r s).pending = s.pending := by
  unfold endForwarded; repeat' split
  all_goals simp

@[simp] theorem mapLinked_keeps (r : ActiveRec) (f : Element → Element) (s : State) :
      (mapLinked r f s).opState = s.opState ∧ (mapLinked r f s).commandCode = s.commandCode ∧
      (mapLinked r f s).commandArg = s.commandArg ∧ (mapLinked r f s).commandRefused = s.commandRefused ∧
      (mapLinked r f s).farSource = s.farSource ∧ (mapLinked r f s).mgmtQueue = s.mgmtQueue ∧
      (mapLinked r f s).mgmtSlots = s.mgmtSlots ∧ (mapLinked r f s).haltRequested = s.haltRequested ∧
      (mapLinked r f s).sources = s.sources ∧ (mapLinked r f s).banks = s.banks ∧
      (mapLinked r f s).activeBank = s.activeBank ∧ (mapLinked r f s).swapCount = s.swapCount ∧
      (mapLinked r f s).timeoutLimits = s.timeoutLimits ∧ (mapLinked r f s).quarantineLimit = s.quarantineLimit ∧
      (mapLinked r f s).strapPins = s.strapPins ∧ (mapLinked r f s).tags = s.tags ∧
      (mapLinked r f s).backlog = s.backlog ∧ (mapLinked r f s).forwardQueue = s.forwardQueue ∧
      (mapLinked r f s).headPhase = s.headPhase ∧ (mapLinked r f s).lists = s.lists ∧
      (mapLinked r f s).tick = s.tick ∧ (mapLinked r f s).rqLink = s.rqLink ∧
      (mapLinked r f s).rsLink = s.rsLink ∧ (mapLinked r f s).rqCredits = s.rqCredits ∧
      (mapLinked r f s).rsCredits = s.rsCredits ∧ (mapLinked r f s).trafficQueue = s.trafficQueue ∧
      (mapLinked r f s).malformedList = s.malformedList ∧ (mapLinked r f s).roomPointer = s.roomPointer ∧
      (mapLinked r f s).ingress = s.ingress ∧ (mapLinked r f s).err = s.err ∧
      (mapLinked r f s).alert = s.alert ∧ (mapLinked r f s).rqWire = s.rqWire ∧
      (mapLinked r f s).rsWire = s.rsWire ∧ (mapLinked r f s).pending = s.pending := by
  unfold mapLinked; repeat' split
  all_goals simp

@[simp] theorem forwardBody_keeps (r : ActiveRec) (b : Body) (s : State) :
      (forwardBody r b s).opState = s.opState ∧ (forwardBody r b s).commandCode = s.commandCode ∧
      (forwardBody r b s).commandArg = s.commandArg ∧ (forwardBody r b s).commandRefused = s.commandRefused ∧
      (forwardBody r b s).farSource = s.farSource ∧ (forwardBody r b s).mgmtQueue = s.mgmtQueue ∧
      (forwardBody r b s).mgmtSlots = s.mgmtSlots ∧ (forwardBody r b s).haltRequested = s.haltRequested ∧
      (forwardBody r b s).sources = s.sources ∧ (forwardBody r b s).banks = s.banks ∧
      (forwardBody r b s).activeBank = s.activeBank ∧ (forwardBody r b s).swapCount = s.swapCount ∧
      (forwardBody r b s).timeoutLimits = s.timeoutLimits ∧ (forwardBody r b s).quarantineLimit = s.quarantineLimit ∧
      (forwardBody r b s).strapPins = s.strapPins ∧ (forwardBody r b s).tags = s.tags ∧
      (forwardBody r b s).backlog = s.backlog ∧ (forwardBody r b s).forwardQueue = s.forwardQueue ∧
      (forwardBody r b s).headPhase = s.headPhase ∧ (forwardBody r b s).slots = s.slots ∧
      (forwardBody r b s).lists = s.lists ∧ (forwardBody r b s).tick = s.tick ∧
      (forwardBody r b s).rqLink = s.rqLink ∧ (forwardBody r b s).rsLink = s.rsLink ∧
      (forwardBody r b s).rqCredits = s.rqCredits ∧ (forwardBody r b s).rsCredits = s.rsCredits ∧
      (forwardBody r b s).malformedList = s.malformedList ∧ (forwardBody r b s).roomPointer = s.roomPointer ∧
      (forwardBody r b s).ingress = s.ingress ∧ (forwardBody r b s).err = s.err ∧
      (forwardBody r b s).alert = s.alert ∧ (forwardBody r b s).rqWire = s.rqWire ∧
      (forwardBody r b s).rsWire = s.rsWire ∧ (forwardBody r b s).pending = s.pending := by
  unfold forwardBody
  simp

@[simp] theorem forwardData_keeps (t : PoolTag) (r : ActiveRec) (p : Arrived) (s : State) :
      (forwardData t r p s).commandCode = s.commandCode ∧ (forwardData t r p s).commandArg = s.commandArg ∧
      (forwardData t r p s).commandRefused = s.commandRefused ∧ (forwardData t r p s).farSource = s.farSource ∧
      (forwardData t r p s).mgmtQueue = s.mgmtQueue ∧ (forwardData t r p s).mgmtSlots = s.mgmtSlots ∧
      (forwardData t r p s).haltRequested = s.haltRequested ∧ (forwardData t r p s).banks = s.banks ∧
      (forwardData t r p s).activeBank = s.activeBank ∧ (forwardData t r p s).swapCount = s.swapCount ∧
      (forwardData t r p s).timeoutLimits = s.timeoutLimits ∧ (forwardData t r p s).quarantineLimit = s.quarantineLimit ∧
      (forwardData t r p s).strapPins = s.strapPins ∧ (forwardData t r p s).backlog = s.backlog ∧
      (forwardData t r p s).forwardQueue = s.forwardQueue ∧ (forwardData t r p s).headPhase = s.headPhase ∧
      (forwardData t r p s).tick = s.tick ∧ (forwardData t r p s).rqLink = s.rqLink ∧
      (forwardData t r p s).rsLink = s.rsLink ∧ (forwardData t r p s).rqCredits = s.rqCredits ∧
      (forwardData t r p s).rsCredits = s.rsCredits ∧ (forwardData t r p s).malformedList = s.malformedList ∧
      (forwardData t r p s).roomPointer = s.roomPointer ∧ (forwardData t r p s).ingress = s.ingress ∧
      (forwardData t r p s).err = s.err ∧ (forwardData t r p s).alert = s.alert ∧
      (forwardData t r p s).rqWire = s.rqWire ∧ (forwardData t r p s).rsWire = s.rsWire ∧
      (forwardData t r p s).pending = s.pending := by
  unfold forwardData; repeat' split
  all_goals simp

@[simp] theorem storeData_keeps (t : PoolTag) (r : ActiveRec) (p : Arrived) (s : State) :
      (storeData t r p s).commandCode = s.commandCode ∧ (storeData t r p s).commandArg = s.commandArg ∧
      (storeData t r p s).commandRefused = s.commandRefused ∧ (storeData t r p s).farSource = s.farSource ∧
      (storeData t r p s).mgmtQueue = s.mgmtQueue ∧ (storeData t r p s).mgmtSlots = s.mgmtSlots ∧
      (storeData t r p s).haltRequested = s.haltRequested ∧ (storeData t r p s).sources = s.sources ∧
      (storeData t r p s).banks = s.banks ∧ (storeData t r p s).activeBank = s.activeBank ∧
      (storeData t r p s).swapCount = s.swapCount ∧ (storeData t r p s).timeoutLimits = s.timeoutLimits ∧
      (storeData t r p s).quarantineLimit = s.quarantineLimit ∧ (storeData t r p s).strapPins = s.strapPins ∧
      (storeData t r p s).backlog = s.backlog ∧ (storeData t r p s).forwardQueue = s.forwardQueue ∧
      (storeData t r p s).headPhase = s.headPhase ∧ (storeData t r p s).lists = s.lists ∧
      (storeData t r p s).tick = s.tick ∧ (storeData t r p s).rqLink = s.rqLink ∧
      (storeData t r p s).rsLink = s.rsLink ∧ (storeData t r p s).rqCredits = s.rqCredits ∧
      (storeData t r p s).rsCredits = s.rsCredits ∧ (storeData t r p s).trafficQueue = s.trafficQueue ∧
      (storeData t r p s).malformedList = s.malformedList ∧ (storeData t r p s).roomPointer = s.roomPointer ∧
      (storeData t r p s).ingress = s.ingress ∧ (storeData t r p s).err = s.err ∧
      (storeData t r p s).alert = s.alert ∧ (storeData t r p s).rqWire = s.rqWire ∧
      (storeData t r p s).rsWire = s.rsWire ∧ (storeData t r p s).pending = s.pending := by
  unfold storeData; repeat' split
  all_goals simp

@[simp] theorem takeData_keeps (t : PoolTag) (r : ActiveRec) (p : Arrived) (s : State) :
      (takeData t r p s).commandCode = s.commandCode ∧ (takeData t r p s).commandArg = s.commandArg ∧
      (takeData t r p s).commandRefused = s.commandRefused ∧ (takeData t r p s).farSource = s.farSource ∧
      (takeData t r p s).mgmtQueue = s.mgmtQueue ∧ (takeData t r p s).mgmtSlots = s.mgmtSlots ∧
      (takeData t r p s).banks = s.banks ∧ (takeData t r p s).activeBank = s.activeBank ∧
      (takeData t r p s).swapCount = s.swapCount ∧ (takeData t r p s).timeoutLimits = s.timeoutLimits ∧
      (takeData t r p s).quarantineLimit = s.quarantineLimit ∧ (takeData t r p s).strapPins = s.strapPins ∧
      (takeData t r p s).backlog = s.backlog ∧ (takeData t r p s).forwardQueue = s.forwardQueue ∧
      (takeData t r p s).headPhase = s.headPhase ∧ (takeData t r p s).tick = s.tick ∧
      (takeData t r p s).rqLink = s.rqLink ∧ (takeData t r p s).rsLink = s.rsLink ∧
      (takeData t r p s).rqCredits = s.rqCredits ∧ (takeData t r p s).rsCredits = s.rsCredits ∧
      (takeData t r p s).malformedList = s.malformedList ∧ (takeData t r p s).roomPointer = s.roomPointer ∧
      (takeData t r p s).ingress = s.ingress ∧ (takeData t r p s).rqWire = s.rqWire ∧
      (takeData t r p s).rsWire = s.rsWire ∧ (takeData t r p s).pending = s.pending := by
  unfold takeData; dsimp only; split <;> split <;> simp

@[simp] theorem takeDone_keeps (t : PoolTag) (r : ActiveRec) (s : State) :
      (takeDone t r s).commandCode = s.commandCode ∧ (takeDone t r s).commandArg = s.commandArg ∧
      (takeDone t r s).commandRefused = s.commandRefused ∧ (takeDone t r s).farSource = s.farSource ∧
      (takeDone t r s).mgmtQueue = s.mgmtQueue ∧ (takeDone t r s).mgmtSlots = s.mgmtSlots ∧
      (takeDone t r s).haltRequested = s.haltRequested ∧ (takeDone t r s).banks = s.banks ∧
      (takeDone t r s).activeBank = s.activeBank ∧ (takeDone t r s).swapCount = s.swapCount ∧
      (takeDone t r s).timeoutLimits = s.timeoutLimits ∧ (takeDone t r s).quarantineLimit = s.quarantineLimit ∧
      (takeDone t r s).strapPins = s.strapPins ∧ (takeDone t r s).backlog = s.backlog ∧
      (takeDone t r s).forwardQueue = s.forwardQueue ∧ (takeDone t r s).headPhase = s.headPhase ∧
      (takeDone t r s).tick = s.tick ∧ (takeDone t r s).rqLink = s.rqLink ∧
      (takeDone t r s).rsLink = s.rsLink ∧ (takeDone t r s).rqCredits = s.rqCredits ∧
      (takeDone t r s).rsCredits = s.rsCredits ∧ (takeDone t r s).malformedList = s.malformedList ∧
      (takeDone t r s).roomPointer = s.roomPointer ∧ (takeDone t r s).ingress = s.ingress ∧
      (takeDone t r s).err = s.err ∧ (takeDone t r s).alert = s.alert ∧
      (takeDone t r s).rqWire = s.rqWire ∧ (takeDone t r s).rsWire = s.rsWire ∧
      (takeDone t r s).pending = s.pending := by
  unfold takeDone; repeat' split
  all_goals simp

@[simp] theorem takeFail_keeps (t : PoolTag) (r : ActiveRec) (st : Status) (s : State) :
      (takeFail t r st s).commandCode = s.commandCode ∧ (takeFail t r st s).commandArg = s.commandArg ∧
      (takeFail t r st s).commandRefused = s.commandRefused ∧ (takeFail t r st s).farSource = s.farSource ∧
      (takeFail t r st s).mgmtQueue = s.mgmtQueue ∧ (takeFail t r st s).mgmtSlots = s.mgmtSlots ∧
      (takeFail t r st s).banks = s.banks ∧ (takeFail t r st s).activeBank = s.activeBank ∧
      (takeFail t r st s).swapCount = s.swapCount ∧ (takeFail t r st s).timeoutLimits = s.timeoutLimits ∧
      (takeFail t r st s).quarantineLimit = s.quarantineLimit ∧ (takeFail t r st s).strapPins = s.strapPins ∧
      (takeFail t r st s).backlog = s.backlog ∧ (takeFail t r st s).forwardQueue = s.forwardQueue ∧
      (takeFail t r st s).headPhase = s.headPhase ∧ (takeFail t r st s).tick = s.tick ∧
      (takeFail t r st s).rqLink = s.rqLink ∧ (takeFail t r st s).rsLink = s.rsLink ∧
      (takeFail t r st s).rqCredits = s.rqCredits ∧ (takeFail t r st s).rsCredits = s.rsCredits ∧
      (takeFail t r st s).malformedList = s.malformedList ∧ (takeFail t r st s).roomPointer = s.roomPointer ∧
      (takeFail t r st s).ingress = s.ingress ∧ (takeFail t r st s).rqWire = s.rqWire ∧
      (takeFail t r st s).rsWire = s.rsWire ∧ (takeFail t r st s).pending = s.pending := by
  unfold takeFail; repeat' split
  all_goals simp

@[simp] theorem takeConsistent_keeps (t : PoolTag) (r : ActiveRec) (p : Arrived) (s : State) :
      (takeConsistent t r p s).commandCode = s.commandCode ∧ (takeConsistent t r p s).commandArg = s.commandArg ∧
      (takeConsistent t r p s).commandRefused = s.commandRefused ∧ (takeConsistent t r p s).farSource = s.farSource ∧
      (takeConsistent t r p s).mgmtQueue = s.mgmtQueue ∧ (takeConsistent t r p s).mgmtSlots = s.mgmtSlots ∧
      (takeConsistent t r p s).banks = s.banks ∧ (takeConsistent t r p s).activeBank = s.activeBank ∧
      (takeConsistent t r p s).swapCount = s.swapCount ∧ (takeConsistent t r p s).timeoutLimits = s.timeoutLimits ∧
      (takeConsistent t r p s).quarantineLimit = s.quarantineLimit ∧ (takeConsistent t r p s).strapPins = s.strapPins ∧
      (takeConsistent t r p s).backlog = s.backlog ∧ (takeConsistent t r p s).forwardQueue = s.forwardQueue ∧
      (takeConsistent t r p s).headPhase = s.headPhase ∧ (takeConsistent t r p s).tick = s.tick ∧
      (takeConsistent t r p s).rqLink = s.rqLink ∧ (takeConsistent t r p s).rsLink = s.rsLink ∧
      (takeConsistent t r p s).rqCredits = s.rqCredits ∧ (takeConsistent t r p s).rsCredits = s.rsCredits ∧
      (takeConsistent t r p s).malformedList = s.malformedList ∧ (takeConsistent t r p s).roomPointer = s.roomPointer ∧
      (takeConsistent t r p s).ingress = s.ingress ∧ (takeConsistent t r p s).rqWire = s.rqWire ∧
      (takeConsistent t r p s).rsWire = s.rsWire ∧ (takeConsistent t r p s).pending = s.pending := by
  unfold takeConsistent; repeat' split
  all_goals simp

@[simp] theorem takeLate_keeps (t : PoolTag) (q : QuarRec) (p : Arrived) (s : State) :
      (takeLate t q p s).opState = s.opState ∧ (takeLate t q p s).commandCode = s.commandCode ∧
      (takeLate t q p s).commandArg = s.commandArg ∧ (takeLate t q p s).commandRefused = s.commandRefused ∧
      (takeLate t q p s).farSource = s.farSource ∧ (takeLate t q p s).mgmtQueue = s.mgmtQueue ∧
      (takeLate t q p s).mgmtSlots = s.mgmtSlots ∧ (takeLate t q p s).sources = s.sources ∧
      (takeLate t q p s).banks = s.banks ∧ (takeLate t q p s).activeBank = s.activeBank ∧
      (takeLate t q p s).swapCount = s.swapCount ∧ (takeLate t q p s).timeoutLimits = s.timeoutLimits ∧
      (takeLate t q p s).quarantineLimit = s.quarantineLimit ∧ (takeLate t q p s).strapPins = s.strapPins ∧
      (takeLate t q p s).backlog = s.backlog ∧ (takeLate t q p s).forwardQueue = s.forwardQueue ∧
      (takeLate t q p s).headPhase = s.headPhase ∧ (takeLate t q p s).slots = s.slots ∧
      (takeLate t q p s).lists = s.lists ∧ (takeLate t q p s).tick = s.tick ∧
      (takeLate t q p s).rqLink = s.rqLink ∧ (takeLate t q p s).rsLink = s.rsLink ∧
      (takeLate t q p s).rqCredits = s.rqCredits ∧ (takeLate t q p s).rsCredits = s.rsCredits ∧
      (takeLate t q p s).trafficQueue = s.trafficQueue ∧ (takeLate t q p s).malformedList = s.malformedList ∧
      (takeLate t q p s).roomPointer = s.roomPointer ∧ (takeLate t q p s).ingress = s.ingress ∧
      (takeLate t q p s).rqWire = s.rqWire ∧ (takeLate t q p s).rsWire = s.rsWire ∧
      (takeLate t q p s).pending = s.pending := by
  unfold takeLate; repeat' split
  all_goals simp

@[simp] theorem takeMismatch_keeps (t : PoolTag) (r : ActiveRec) (s : State) :
      (takeMismatch t r s).commandCode = s.commandCode ∧ (takeMismatch t r s).commandArg = s.commandArg ∧
      (takeMismatch t r s).commandRefused = s.commandRefused ∧ (takeMismatch t r s).farSource = s.farSource ∧
      (takeMismatch t r s).mgmtQueue = s.mgmtQueue ∧ (takeMismatch t r s).mgmtSlots = s.mgmtSlots ∧
      (takeMismatch t r s).banks = s.banks ∧ (takeMismatch t r s).activeBank = s.activeBank ∧
      (takeMismatch t r s).swapCount = s.swapCount ∧ (takeMismatch t r s).timeoutLimits = s.timeoutLimits ∧
      (takeMismatch t r s).quarantineLimit = s.quarantineLimit ∧ (takeMismatch t r s).strapPins = s.strapPins ∧
      (takeMismatch t r s).forwardQueue = s.forwardQueue ∧ (takeMismatch t r s).headPhase = s.headPhase ∧
      (takeMismatch t r s).tick = s.tick ∧ (takeMismatch t r s).rqLink = s.rqLink ∧
      (takeMismatch t r s).rsLink = s.rsLink ∧ (takeMismatch t r s).rqCredits = s.rqCredits ∧
      (takeMismatch t r s).rsCredits = s.rsCredits ∧ (takeMismatch t r s).malformedList = s.malformedList ∧
      (takeMismatch t r s).roomPointer = s.roomPointer ∧ (takeMismatch t r s).ingress = s.ingress ∧
      (takeMismatch t r s).rqWire = s.rqWire ∧ (takeMismatch t r s).rsWire = s.rsWire ∧
      (takeMismatch t r s).pending = s.pending := by
  unfold takeMismatch
  simp

@[simp] theorem handlePacket_keeps (p : Arrived) (s : State) :
      (handlePacket p s).commandCode = s.commandCode ∧ (handlePacket p s).commandArg = s.commandArg ∧
      (handlePacket p s).commandRefused = s.commandRefused ∧ (handlePacket p s).farSource = s.farSource ∧
      (handlePacket p s).mgmtQueue = s.mgmtQueue ∧ (handlePacket p s).mgmtSlots = s.mgmtSlots ∧
      (handlePacket p s).banks = s.banks ∧ (handlePacket p s).activeBank = s.activeBank ∧
      (handlePacket p s).swapCount = s.swapCount ∧ (handlePacket p s).timeoutLimits = s.timeoutLimits ∧
      (handlePacket p s).quarantineLimit = s.quarantineLimit ∧ (handlePacket p s).strapPins = s.strapPins ∧
      (handlePacket p s).forwardQueue = s.forwardQueue ∧ (handlePacket p s).headPhase = s.headPhase ∧
      (handlePacket p s).tick = s.tick ∧ (handlePacket p s).rqLink = s.rqLink ∧
      (handlePacket p s).rsLink = s.rsLink ∧ (handlePacket p s).rqCredits = s.rqCredits ∧
      (handlePacket p s).rsCredits = s.rsCredits ∧ (handlePacket p s).malformedList = s.malformedList ∧
      (handlePacket p s).roomPointer = s.roomPointer ∧ (handlePacket p s).ingress = s.ingress ∧
      (handlePacket p s).rqWire = s.rqWire ∧ (handlePacket p s).rsWire = s.rsWire ∧
      (handlePacket p s).pending = s.pending := by
  unfold handlePacket; repeat' split
  all_goals simp

@[simp] theorem matcherTake_keeps (s : State) :
      (matcherTake s).commandCode = s.commandCode ∧ (matcherTake s).commandArg = s.commandArg ∧
      (matcherTake s).commandRefused = s.commandRefused ∧ (matcherTake s).farSource = s.farSource ∧
      (matcherTake s).mgmtQueue = s.mgmtQueue ∧ (matcherTake s).mgmtSlots = s.mgmtSlots ∧
      (matcherTake s).banks = s.banks ∧ (matcherTake s).activeBank = s.activeBank ∧
      (matcherTake s).swapCount = s.swapCount ∧ (matcherTake s).timeoutLimits = s.timeoutLimits ∧
      (matcherTake s).quarantineLimit = s.quarantineLimit ∧ (matcherTake s).strapPins = s.strapPins ∧
      (matcherTake s).forwardQueue = s.forwardQueue ∧ (matcherTake s).headPhase = s.headPhase ∧
      (matcherTake s).tick = s.tick ∧ (matcherTake s).rqLink = s.rqLink ∧
      (matcherTake s).rsLink = s.rsLink ∧ (matcherTake s).rqCredits = s.rqCredits ∧
      (matcherTake s).rsCredits = s.rsCredits ∧ (matcherTake s).malformedList = s.malformedList ∧
      (matcherTake s).roomPointer = s.roomPointer ∧ (matcherTake s).rqWire = s.rqWire ∧
      (matcherTake s).pending = s.pending := by
  unfold matcherTake; repeat' split
  all_goals simp

@[simp] theorem placeAnswer_keeps (s : State) :
      (placeAnswer s).opState = s.opState ∧ (placeAnswer s).commandCode = s.commandCode ∧
      (placeAnswer s).commandArg = s.commandArg ∧ (placeAnswer s).commandRefused = s.commandRefused ∧
      (placeAnswer s).farSource = s.farSource ∧ (placeAnswer s).mgmtQueue = s.mgmtQueue ∧
      (placeAnswer s).mgmtSlots = s.mgmtSlots ∧ (placeAnswer s).haltRequested = s.haltRequested ∧
      (placeAnswer s).sources = s.sources ∧ (placeAnswer s).banks = s.banks ∧
      (placeAnswer s).activeBank = s.activeBank ∧ (placeAnswer s).swapCount = s.swapCount ∧
      (placeAnswer s).timeoutLimits = s.timeoutLimits ∧ (placeAnswer s).quarantineLimit = s.quarantineLimit ∧
      (placeAnswer s).strapPins = s.strapPins ∧ (placeAnswer s).tags = s.tags ∧
      (placeAnswer s).backlog = s.backlog ∧ (placeAnswer s).slots = s.slots ∧
      (placeAnswer s).lists = s.lists ∧ (placeAnswer s).tick = s.tick ∧
      (placeAnswer s).rqLink = s.rqLink ∧ (placeAnswer s).rsLink = s.rsLink ∧
      (placeAnswer s).rqCredits = s.rqCredits ∧ (placeAnswer s).rsCredits = s.rsCredits ∧
      (placeAnswer s).malformedList = s.malformedList ∧ (placeAnswer s).roomPointer = s.roomPointer ∧
      (placeAnswer s).ingress = s.ingress ∧ (placeAnswer s).err = s.err ∧
      (placeAnswer s).alert = s.alert ∧ (placeAnswer s).rsWire = s.rsWire ∧
      (placeAnswer s).pending = s.pending := by
  unfold placeAnswer; repeat' split
  all_goals simp

@[simp] theorem placeBacklog_keeps (s : State) :
      (placeBacklog s).opState = s.opState ∧ (placeBacklog s).commandCode = s.commandCode ∧
      (placeBacklog s).commandArg = s.commandArg ∧ (placeBacklog s).commandRefused = s.commandRefused ∧
      (placeBacklog s).farSource = s.farSource ∧ (placeBacklog s).mgmtQueue = s.mgmtQueue ∧
      (placeBacklog s).mgmtSlots = s.mgmtSlots ∧ (placeBacklog s).haltRequested = s.haltRequested ∧
      (placeBacklog s).sources = s.sources ∧ (placeBacklog s).banks = s.banks ∧
      (placeBacklog s).activeBank = s.activeBank ∧ (placeBacklog s).swapCount = s.swapCount ∧
      (placeBacklog s).timeoutLimits = s.timeoutLimits ∧ (placeBacklog s).quarantineLimit = s.quarantineLimit ∧
      (placeBacklog s).strapPins = s.strapPins ∧ (placeBacklog s).tags = s.tags ∧
      (placeBacklog s).forwardQueue = s.forwardQueue ∧ (placeBacklog s).headPhase = s.headPhase ∧
      (placeBacklog s).slots = s.slots ∧ (placeBacklog s).lists = s.lists ∧
      (placeBacklog s).tick = s.tick ∧ (placeBacklog s).rqLink = s.rqLink ∧
      (placeBacklog s).rsLink = s.rsLink ∧ (placeBacklog s).rqCredits = s.rqCredits ∧
      (placeBacklog s).rsCredits = s.rsCredits ∧ (placeBacklog s).malformedList = s.malformedList ∧
      (placeBacklog s).roomPointer = s.roomPointer ∧ (placeBacklog s).ingress = s.ingress ∧
      (placeBacklog s).err = s.err ∧ (placeBacklog s).alert = s.alert ∧
      (placeBacklog s).rqWire = s.rqWire ∧ (placeBacklog s).rsWire = s.rsWire ∧
      (placeBacklog s).pending = s.pending := by
  unfold placeBacklog; repeat' split
  all_goals simp

@[simp] theorem placeMalformed_keeps (s : State) :
      (placeMalformed s).opState = s.opState ∧ (placeMalformed s).commandCode = s.commandCode ∧
      (placeMalformed s).commandArg = s.commandArg ∧ (placeMalformed s).commandRefused = s.commandRefused ∧
      (placeMalformed s).farSource = s.farSource ∧ (placeMalformed s).mgmtQueue = s.mgmtQueue ∧
      (placeMalformed s).mgmtSlots = s.mgmtSlots ∧ (placeMalformed s).haltRequested = s.haltRequested ∧
      (placeMalformed s).sources = s.sources ∧ (placeMalformed s).banks = s.banks ∧
      (placeMalformed s).activeBank = s.activeBank ∧ (placeMalformed s).swapCount = s.swapCount ∧
      (placeMalformed s).timeoutLimits = s.timeoutLimits ∧ (placeMalformed s).quarantineLimit = s.quarantineLimit ∧
      (placeMalformed s).strapPins = s.strapPins ∧ (placeMalformed s).tags = s.tags ∧
      (placeMalformed s).backlog = s.backlog ∧ (placeMalformed s).forwardQueue = s.forwardQueue ∧
      (placeMalformed s).headPhase = s.headPhase ∧ (placeMalformed s).slots = s.slots ∧
      (placeMalformed s).lists = s.lists ∧ (placeMalformed s).tick = s.tick ∧
      (placeMalformed s).rqLink = s.rqLink ∧ (placeMalformed s).rsLink = s.rsLink ∧
      (placeMalformed s).rqCredits = s.rqCredits ∧ (placeMalformed s).rsCredits = s.rsCredits ∧
      (placeMalformed s).roomPointer = s.roomPointer ∧ (placeMalformed s).ingress = s.ingress ∧
      (placeMalformed s).err = s.err ∧ (placeMalformed s).alert = s.alert ∧
      (placeMalformed s).rsWire = s.rsWire ∧ (placeMalformed s).pending = s.pending := by
  unfold placeMalformed; repeat' split
  all_goals simp

@[simp] theorem serve_keeps (p : Producer) (s : State) :
      (serve p s).commandCode = s.commandCode ∧ (serve p s).commandArg = s.commandArg ∧
      (serve p s).commandRefused = s.commandRefused ∧ (serve p s).farSource = s.farSource ∧
      (serve p s).mgmtQueue = s.mgmtQueue ∧ (serve p s).mgmtSlots = s.mgmtSlots ∧
      (serve p s).banks = s.banks ∧ (serve p s).activeBank = s.activeBank ∧
      (serve p s).swapCount = s.swapCount ∧ (serve p s).timeoutLimits = s.timeoutLimits ∧
      (serve p s).quarantineLimit = s.quarantineLimit ∧ (serve p s).strapPins = s.strapPins ∧
      (serve p s).tick = s.tick ∧ (serve p s).rqLink = s.rqLink ∧
      (serve p s).rsLink = s.rsLink ∧ (serve p s).rqCredits = s.rqCredits ∧
      (serve p s).rsCredits = s.rsCredits ∧ (serve p s).roomPointer = s.roomPointer ∧
      (serve p s).pending = s.pending := by
  cases p <;> simp [serve]

@[simp] theorem placeDirect_keeps (p : Producer) (s : State) :
      (placeDirect p s).commandCode = s.commandCode ∧ (placeDirect p s).commandArg = s.commandArg ∧
      (placeDirect p s).commandRefused = s.commandRefused ∧ (placeDirect p s).farSource = s.farSource ∧
      (placeDirect p s).mgmtQueue = s.mgmtQueue ∧ (placeDirect p s).mgmtSlots = s.mgmtSlots ∧
      (placeDirect p s).banks = s.banks ∧ (placeDirect p s).activeBank = s.activeBank ∧
      (placeDirect p s).swapCount = s.swapCount ∧ (placeDirect p s).timeoutLimits = s.timeoutLimits ∧
      (placeDirect p s).quarantineLimit = s.quarantineLimit ∧ (placeDirect p s).strapPins = s.strapPins ∧
      (placeDirect p s).tick = s.tick ∧ (placeDirect p s).rqLink = s.rqLink ∧
      (placeDirect p s).rsLink = s.rsLink ∧ (placeDirect p s).rqCredits = s.rqCredits ∧
      (placeDirect p s).rsCredits = s.rsCredits ∧ (placeDirect p s).roomPointer = s.roomPointer ∧
      (placeDirect p s).pending = s.pending := by
  unfold placeDirect; repeat' split
  all_goals simp

@[simp] theorem serveAt_keeps (p : Fin 36) (s : State) :
      (serveAt p s).commandCode = s.commandCode ∧ (serveAt p s).commandArg = s.commandArg ∧
      (serveAt p s).commandRefused = s.commandRefused ∧ (serveAt p s).farSource = s.farSource ∧
      (serveAt p s).mgmtQueue = s.mgmtQueue ∧ (serveAt p s).mgmtSlots = s.mgmtSlots ∧
      (serveAt p s).banks = s.banks ∧ (serveAt p s).activeBank = s.activeBank ∧
      (serveAt p s).swapCount = s.swapCount ∧ (serveAt p s).timeoutLimits = s.timeoutLimits ∧
      (serveAt p s).quarantineLimit = s.quarantineLimit ∧ (serveAt p s).strapPins = s.strapPins ∧
      (serveAt p s).tick = s.tick ∧ (serveAt p s).rqLink = s.rqLink ∧
      (serveAt p s).rsLink = s.rsLink ∧ (serveAt p s).rqCredits = s.rqCredits ∧
      (serveAt p s).rsCredits = s.rsCredits ∧ (serveAt p s).pending = s.pending := by
  unfold serveAt
  simp

@[simp] theorem givePlace_keeps (s : State) :
      (givePlace s).commandCode = s.commandCode ∧ (givePlace s).commandArg = s.commandArg ∧
      (givePlace s).commandRefused = s.commandRefused ∧ (givePlace s).farSource = s.farSource ∧
      (givePlace s).mgmtQueue = s.mgmtQueue ∧ (givePlace s).mgmtSlots = s.mgmtSlots ∧
      (givePlace s).banks = s.banks ∧ (givePlace s).activeBank = s.activeBank ∧
      (givePlace s).swapCount = s.swapCount ∧ (givePlace s).timeoutLimits = s.timeoutLimits ∧
      (givePlace s).quarantineLimit = s.quarantineLimit ∧ (givePlace s).strapPins = s.strapPins ∧
      (givePlace s).tick = s.tick ∧ (givePlace s).rqLink = s.rqLink ∧
      (givePlace s).rsLink = s.rsLink ∧ (givePlace s).rqCredits = s.rqCredits ∧
      (givePlace s).rsCredits = s.rsCredits ∧ (givePlace s).pending = s.pending := by
  unfold givePlace; repeat' split
  all_goals simp

@[simp] theorem distribute_keeps (before s : State) :
      (distribute before s).commandCode = s.commandCode ∧ (distribute before s).commandArg = s.commandArg ∧
      (distribute before s).commandRefused = s.commandRefused ∧ (distribute before s).farSource = s.farSource ∧
      (distribute before s).mgmtQueue = s.mgmtQueue ∧ (distribute before s).mgmtSlots = s.mgmtSlots ∧
      (distribute before s).banks = s.banks ∧ (distribute before s).activeBank = s.activeBank ∧
      (distribute before s).swapCount = s.swapCount ∧ (distribute before s).timeoutLimits = s.timeoutLimits ∧
      (distribute before s).quarantineLimit = s.quarantineLimit ∧ (distribute before s).strapPins = s.strapPins ∧
      (distribute before s).tick = s.tick ∧ (distribute before s).rqLink = s.rqLink ∧
      (distribute before s).rsLink = s.rsLink ∧ (distribute before s).rqCredits = s.rqCredits ∧
      (distribute before s).rsCredits = s.rsCredits ∧ (distribute before s).pending = s.pending := by
  unfold distribute
  refine ⟨?_, ?_, ?_, ?_, ?_, ?_, ?_, ?_, ?_, ?_, ?_, ?_, ?_, ?_, ?_, ?_, ?_, ?_⟩ <;>
  · refine foldl_keeps (fun s t => ?_) _ s
    split <;> simp

@[simp] theorem expireTag_keeps (t : PoolTag) (s : State) :
      (expireTag t s).commandCode = s.commandCode ∧ (expireTag t s).commandArg = s.commandArg ∧
      (expireTag t s).commandRefused = s.commandRefused ∧ (expireTag t s).farSource = s.farSource ∧
      (expireTag t s).mgmtQueue = s.mgmtQueue ∧ (expireTag t s).mgmtSlots = s.mgmtSlots ∧
      (expireTag t s).banks = s.banks ∧ (expireTag t s).activeBank = s.activeBank ∧
      (expireTag t s).swapCount = s.swapCount ∧ (expireTag t s).timeoutLimits = s.timeoutLimits ∧
      (expireTag t s).quarantineLimit = s.quarantineLimit ∧ (expireTag t s).strapPins = s.strapPins ∧
      (expireTag t s).forwardQueue = s.forwardQueue ∧ (expireTag t s).headPhase = s.headPhase ∧
      (expireTag t s).tick = s.tick ∧ (expireTag t s).rqLink = s.rqLink ∧
      (expireTag t s).rsLink = s.rsLink ∧ (expireTag t s).rqCredits = s.rqCredits ∧
      (expireTag t s).rsCredits = s.rsCredits ∧ (expireTag t s).malformedList = s.malformedList ∧
      (expireTag t s).roomPointer = s.roomPointer ∧ (expireTag t s).ingress = s.ingress ∧
      (expireTag t s).rqWire = s.rqWire ∧ (expireTag t s).rsWire = s.rsWire ∧
      (expireTag t s).pending = s.pending := by
  unfold expireTag; repeat' split
  all_goals simp

@[simp] theorem lapseTag_keeps (t : PoolTag) (s : State) :
      (lapseTag t s).opState = s.opState ∧ (lapseTag t s).commandCode = s.commandCode ∧
      (lapseTag t s).commandArg = s.commandArg ∧ (lapseTag t s).commandRefused = s.commandRefused ∧
      (lapseTag t s).farSource = s.farSource ∧ (lapseTag t s).mgmtQueue = s.mgmtQueue ∧
      (lapseTag t s).mgmtSlots = s.mgmtSlots ∧ (lapseTag t s).haltRequested = s.haltRequested ∧
      (lapseTag t s).sources = s.sources ∧ (lapseTag t s).banks = s.banks ∧
      (lapseTag t s).activeBank = s.activeBank ∧ (lapseTag t s).swapCount = s.swapCount ∧
      (lapseTag t s).timeoutLimits = s.timeoutLimits ∧ (lapseTag t s).quarantineLimit = s.quarantineLimit ∧
      (lapseTag t s).strapPins = s.strapPins ∧ (lapseTag t s).backlog = s.backlog ∧
      (lapseTag t s).forwardQueue = s.forwardQueue ∧ (lapseTag t s).headPhase = s.headPhase ∧
      (lapseTag t s).slots = s.slots ∧ (lapseTag t s).lists = s.lists ∧
      (lapseTag t s).tick = s.tick ∧ (lapseTag t s).rqLink = s.rqLink ∧
      (lapseTag t s).rsLink = s.rsLink ∧ (lapseTag t s).rqCredits = s.rqCredits ∧
      (lapseTag t s).rsCredits = s.rsCredits ∧ (lapseTag t s).trafficQueue = s.trafficQueue ∧
      (lapseTag t s).malformedList = s.malformedList ∧ (lapseTag t s).roomPointer = s.roomPointer ∧
      (lapseTag t s).ingress = s.ingress ∧ (lapseTag t s).err = s.err ∧
      (lapseTag t s).alert = s.alert ∧ (lapseTag t s).rqWire = s.rqWire ∧
      (lapseTag t s).rsWire = s.rsWire ∧ (lapseTag t s).pending = s.pending := by
  unfold lapseTag; repeat' split
  all_goals simp

@[simp] theorem expireAndLapse_keeps (s : State) :
      (expireAndLapse s).commandCode = s.commandCode ∧ (expireAndLapse s).commandArg = s.commandArg ∧
      (expireAndLapse s).commandRefused = s.commandRefused ∧ (expireAndLapse s).farSource = s.farSource ∧
      (expireAndLapse s).mgmtQueue = s.mgmtQueue ∧ (expireAndLapse s).mgmtSlots = s.mgmtSlots ∧
      (expireAndLapse s).banks = s.banks ∧ (expireAndLapse s).activeBank = s.activeBank ∧
      (expireAndLapse s).swapCount = s.swapCount ∧ (expireAndLapse s).timeoutLimits = s.timeoutLimits ∧
      (expireAndLapse s).quarantineLimit = s.quarantineLimit ∧ (expireAndLapse s).strapPins = s.strapPins ∧
      (expireAndLapse s).forwardQueue = s.forwardQueue ∧ (expireAndLapse s).headPhase = s.headPhase ∧
      (expireAndLapse s).tick = s.tick ∧ (expireAndLapse s).rqLink = s.rqLink ∧
      (expireAndLapse s).rsLink = s.rsLink ∧ (expireAndLapse s).rqCredits = s.rqCredits ∧
      (expireAndLapse s).rsCredits = s.rsCredits ∧ (expireAndLapse s).malformedList = s.malformedList ∧
      (expireAndLapse s).roomPointer = s.roomPointer ∧ (expireAndLapse s).ingress = s.ingress ∧
      (expireAndLapse s).rqWire = s.rqWire ∧ (expireAndLapse s).rsWire = s.rsWire ∧
      (expireAndLapse s).pending = s.pending := by
  unfold expireAndLapse
  exact ⟨(foldl_keeps (f := State.commandCode) (fun s t => by simp) _ _).trans (foldl_keeps (f := State.commandCode) (fun s t => by simp) _ s),
    (foldl_keeps (f := State.commandArg) (fun s t => by simp) _ _).trans (foldl_keeps (f := State.commandArg) (fun s t => by simp) _ s),
    (foldl_keeps (f := State.commandRefused) (fun s t => by simp) _ _).trans (foldl_keeps (f := State.commandRefused) (fun s t => by simp) _ s),
    (foldl_keeps (f := State.farSource) (fun s t => by simp) _ _).trans (foldl_keeps (f := State.farSource) (fun s t => by simp) _ s),
    (foldl_keeps (f := State.mgmtQueue) (fun s t => by simp) _ _).trans (foldl_keeps (f := State.mgmtQueue) (fun s t => by simp) _ s),
    (foldl_keeps (f := State.mgmtSlots) (fun s t => by simp) _ _).trans (foldl_keeps (f := State.mgmtSlots) (fun s t => by simp) _ s),
    (foldl_keeps (f := State.banks) (fun s t => by simp) _ _).trans (foldl_keeps (f := State.banks) (fun s t => by simp) _ s),
    (foldl_keeps (f := State.activeBank) (fun s t => by simp) _ _).trans (foldl_keeps (f := State.activeBank) (fun s t => by simp) _ s),
    (foldl_keeps (f := State.swapCount) (fun s t => by simp) _ _).trans (foldl_keeps (f := State.swapCount) (fun s t => by simp) _ s),
    (foldl_keeps (f := State.timeoutLimits) (fun s t => by simp) _ _).trans (foldl_keeps (f := State.timeoutLimits) (fun s t => by simp) _ s),
    (foldl_keeps (f := State.quarantineLimit) (fun s t => by simp) _ _).trans (foldl_keeps (f := State.quarantineLimit) (fun s t => by simp) _ s),
    (foldl_keeps (f := State.strapPins) (fun s t => by simp) _ _).trans (foldl_keeps (f := State.strapPins) (fun s t => by simp) _ s),
    (foldl_keeps (f := State.forwardQueue) (fun s t => by simp) _ _).trans (foldl_keeps (f := State.forwardQueue) (fun s t => by simp) _ s),
    (foldl_keeps (f := State.headPhase) (fun s t => by simp) _ _).trans (foldl_keeps (f := State.headPhase) (fun s t => by simp) _ s),
    (foldl_keeps (f := State.tick) (fun s t => by simp) _ _).trans (foldl_keeps (f := State.tick) (fun s t => by simp) _ s),
    (foldl_keeps (f := State.rqLink) (fun s t => by simp) _ _).trans (foldl_keeps (f := State.rqLink) (fun s t => by simp) _ s),
    (foldl_keeps (f := State.rsLink) (fun s t => by simp) _ _).trans (foldl_keeps (f := State.rsLink) (fun s t => by simp) _ s),
    (foldl_keeps (f := State.rqCredits) (fun s t => by simp) _ _).trans (foldl_keeps (f := State.rqCredits) (fun s t => by simp) _ s),
    (foldl_keeps (f := State.rsCredits) (fun s t => by simp) _ _).trans (foldl_keeps (f := State.rsCredits) (fun s t => by simp) _ s),
    (foldl_keeps (f := State.malformedList) (fun s t => by simp) _ _).trans (foldl_keeps (f := State.malformedList) (fun s t => by simp) _ s),
    (foldl_keeps (f := State.roomPointer) (fun s t => by simp) _ _).trans (foldl_keeps (f := State.roomPointer) (fun s t => by simp) _ s),
    (foldl_keeps (f := State.ingress) (fun s t => by simp) _ _).trans (foldl_keeps (f := State.ingress) (fun s t => by simp) _ s),
    (foldl_keeps (f := State.rqWire) (fun s t => by simp) _ _).trans (foldl_keeps (f := State.rqWire) (fun s t => by simp) _ s),
    (foldl_keeps (f := State.rsWire) (fun s t => by simp) _ _).trans (foldl_keeps (f := State.rsWire) (fun s t => by simp) _ s),
    (foldl_keeps (f := State.pending) (fun s t => by simp) _ _).trans (foldl_keeps (f := State.pending) (fun s t => by simp) _ s)⟩

@[simp] theorem tickEvent_keeps (s : State) :
      (tickEvent s).commandCode = s.commandCode ∧ (tickEvent s).commandArg = s.commandArg ∧
      (tickEvent s).commandRefused = s.commandRefused ∧ (tickEvent s).farSource = s.farSource ∧
      (tickEvent s).mgmtQueue = s.mgmtQueue ∧ (tickEvent s).mgmtSlots = s.mgmtSlots ∧
      (tickEvent s).banks = s.banks ∧ (tickEvent s).activeBank = s.activeBank ∧
      (tickEvent s).swapCount = s.swapCount ∧ (tickEvent s).timeoutLimits = s.timeoutLimits ∧
      (tickEvent s).quarantineLimit = s.quarantineLimit ∧ (tickEvent s).strapPins = s.strapPins ∧
      (tickEvent s).rqLink = s.rqLink ∧ (tickEvent s).rsLink = s.rsLink ∧
      (tickEvent s).rqCredits = s.rqCredits ∧ (tickEvent s).rsCredits = s.rsCredits ∧
      (tickEvent s).pending = s.pending := by
  unfold tickEvent
  simp

@[simp] theorem prescaledStep_keeps (s : State) :
      (prescaledStep s).commandCode = s.commandCode ∧ (prescaledStep s).commandArg = s.commandArg ∧
      (prescaledStep s).commandRefused = s.commandRefused ∧ (prescaledStep s).farSource = s.farSource ∧
      (prescaledStep s).mgmtQueue = s.mgmtQueue ∧ (prescaledStep s).mgmtSlots = s.mgmtSlots ∧
      (prescaledStep s).banks = s.banks ∧ (prescaledStep s).activeBank = s.activeBank ∧
      (prescaledStep s).swapCount = s.swapCount ∧ (prescaledStep s).timeoutLimits = s.timeoutLimits ∧
      (prescaledStep s).quarantineLimit = s.quarantineLimit ∧ (prescaledStep s).strapPins = s.strapPins ∧
      (prescaledStep s).rqLink = s.rqLink ∧ (prescaledStep s).rsLink = s.rsLink ∧
      (prescaledStep s).rqCredits = s.rqCredits ∧ (prescaledStep s).rsCredits = s.rsCredits ∧
      (prescaledStep s).pending = s.pending := by
  unfold prescaledStep; repeat' split
  all_goals simp

@[simp] theorem issueAfter_keeps (before s : State) :
      (issueAfter before s).opState = s.opState ∧ (issueAfter before s).commandCode = s.commandCode ∧
      (issueAfter before s).commandArg = s.commandArg ∧ (issueAfter before s).commandRefused = s.commandRefused ∧
      (issueAfter before s).farSource = s.farSource ∧ (issueAfter before s).mgmtQueue = s.mgmtQueue ∧
      (issueAfter before s).mgmtSlots = s.mgmtSlots ∧ (issueAfter before s).haltRequested = s.haltRequested ∧
      (issueAfter before s).banks = s.banks ∧ (issueAfter before s).activeBank = s.activeBank ∧
      (issueAfter before s).swapCount = s.swapCount ∧ (issueAfter before s).timeoutLimits = s.timeoutLimits ∧
      (issueAfter before s).quarantineLimit = s.quarantineLimit ∧ (issueAfter before s).strapPins = s.strapPins ∧
      (issueAfter before s).backlog = s.backlog ∧ (issueAfter before s).tick = s.tick ∧
      (issueAfter before s).rqLink = s.rqLink ∧ (issueAfter before s).rsLink = s.rsLink ∧
      (issueAfter before s).rqCredits = s.rqCredits ∧ (issueAfter before s).trafficQueue = s.trafficQueue ∧
      (issueAfter before s).malformedList = s.malformedList ∧ (issueAfter before s).roomPointer = s.roomPointer ∧
      (issueAfter before s).ingress = s.ingress ∧ (issueAfter before s).err = s.err ∧
      (issueAfter before s).alert = s.alert ∧ (issueAfter before s).pending = s.pending := by
  unfold issueAfter; split <;> simp

@[simp] theorem rqTeardown_keeps (s : State) :
      (rqTeardown s).commandCode = s.commandCode ∧ (rqTeardown s).commandArg = s.commandArg ∧
      (rqTeardown s).commandRefused = s.commandRefused ∧ (rqTeardown s).farSource = s.farSource ∧
      (rqTeardown s).haltRequested = s.haltRequested ∧ (rqTeardown s).banks = s.banks ∧
      (rqTeardown s).activeBank = s.activeBank ∧ (rqTeardown s).swapCount = s.swapCount ∧
      (rqTeardown s).timeoutLimits = s.timeoutLimits ∧ (rqTeardown s).quarantineLimit = s.quarantineLimit ∧
      (rqTeardown s).strapPins = s.strapPins ∧ (rqTeardown s).tick = s.tick ∧
      (rqTeardown s).rsLink = s.rsLink ∧ (rqTeardown s).rsCredits = s.rsCredits ∧
      (rqTeardown s).roomPointer = s.roomPointer ∧ (rqTeardown s).ingress = s.ingress ∧
      (rqTeardown s).err = s.err ∧ (rqTeardown s).rqWire = s.rqWire ∧
      (rqTeardown s).rsWire = s.rsWire ∧ (rqTeardown s).pending = s.pending := by
  unfold rqTeardown
  simp

@[simp] theorem rqDown_keeps (s : State) :
      (rqDown s).commandCode = s.commandCode ∧ (rqDown s).commandArg = s.commandArg ∧
      (rqDown s).commandRefused = s.commandRefused ∧ (rqDown s).farSource = s.farSource ∧
      (rqDown s).banks = s.banks ∧ (rqDown s).activeBank = s.activeBank ∧
      (rqDown s).swapCount = s.swapCount ∧ (rqDown s).timeoutLimits = s.timeoutLimits ∧
      (rqDown s).quarantineLimit = s.quarantineLimit ∧ (rqDown s).strapPins = s.strapPins ∧
      (rqDown s).tick = s.tick ∧ (rqDown s).rsLink = s.rsLink ∧
      (rqDown s).rsCredits = s.rsCredits ∧ (rqDown s).roomPointer = s.roomPointer ∧
      (rqDown s).ingress = s.ingress ∧ (rqDown s).rqWire = s.rqWire ∧
      (rqDown s).rsWire = s.rsWire ∧ (rqDown s).pending = s.pending := by
  unfold rqDown
  simp

@[simp] theorem rsTeardown_keeps (s : State) :
      (rsTeardown s).commandCode = s.commandCode ∧ (rsTeardown s).commandArg = s.commandArg ∧
      (rsTeardown s).commandRefused = s.commandRefused ∧ (rsTeardown s).farSource = s.farSource ∧
      (rsTeardown s).mgmtQueue = s.mgmtQueue ∧ (rsTeardown s).mgmtSlots = s.mgmtSlots ∧
      (rsTeardown s).banks = s.banks ∧ (rsTeardown s).activeBank = s.activeBank ∧
      (rsTeardown s).swapCount = s.swapCount ∧ (rsTeardown s).timeoutLimits = s.timeoutLimits ∧
      (rsTeardown s).quarantineLimit = s.quarantineLimit ∧ (rsTeardown s).strapPins = s.strapPins ∧
      (rsTeardown s).tick = s.tick ∧ (rsTeardown s).rqLink = s.rqLink ∧
      (rsTeardown s).rqCredits = s.rqCredits ∧ (rsTeardown s).malformedList = s.malformedList ∧
      (rsTeardown s).roomPointer = s.roomPointer ∧ (rsTeardown s).rsWire = s.rsWire ∧
      (rsTeardown s).pending = s.pending := by
  unfold rsTeardown
  simp

@[simp] theorem rsDown_keeps (s : State) :
      (rsDown s).commandCode = s.commandCode ∧ (rsDown s).commandArg = s.commandArg ∧
      (rsDown s).commandRefused = s.commandRefused ∧ (rsDown s).farSource = s.farSource ∧
      (rsDown s).mgmtQueue = s.mgmtQueue ∧ (rsDown s).mgmtSlots = s.mgmtSlots ∧
      (rsDown s).banks = s.banks ∧ (rsDown s).activeBank = s.activeBank ∧
      (rsDown s).swapCount = s.swapCount ∧ (rsDown s).timeoutLimits = s.timeoutLimits ∧
      (rsDown s).quarantineLimit = s.quarantineLimit ∧ (rsDown s).strapPins = s.strapPins ∧
      (rsDown s).tick = s.tick ∧ (rsDown s).rqLink = s.rqLink ∧
      (rsDown s).rqCredits = s.rqCredits ∧ (rsDown s).pending = s.pending := by
  unfold rsDown
  simp

@[simp] theorem haltQueue_keeps (s : State) :
      (haltQueue s).opState = s.opState ∧ (haltQueue s).commandCode = s.commandCode ∧
      (haltQueue s).commandArg = s.commandArg ∧ (haltQueue s).commandRefused = s.commandRefused ∧
      (haltQueue s).farSource = s.farSource ∧ (haltQueue s).mgmtQueue = s.mgmtQueue ∧
      (haltQueue s).mgmtSlots = s.mgmtSlots ∧ (haltQueue s).haltRequested = s.haltRequested ∧
      (haltQueue s).sources = s.sources ∧ (haltQueue s).banks = s.banks ∧
      (haltQueue s).activeBank = s.activeBank ∧ (haltQueue s).swapCount = s.swapCount ∧
      (haltQueue s).timeoutLimits = s.timeoutLimits ∧ (haltQueue s).quarantineLimit = s.quarantineLimit ∧
      (haltQueue s).strapPins = s.strapPins ∧ (haltQueue s).tags = s.tags ∧
      (haltQueue s).backlog = s.backlog ∧ (haltQueue s).slots = s.slots ∧
      (haltQueue s).lists = s.lists ∧ (haltQueue s).tick = s.tick ∧
      (haltQueue s).rqLink = s.rqLink ∧ (haltQueue s).rsLink = s.rsLink ∧
      (haltQueue s).rqCredits = s.rqCredits ∧ (haltQueue s).rsCredits = s.rsCredits ∧
      (haltQueue s).trafficQueue = s.trafficQueue ∧ (haltQueue s).malformedList = s.malformedList ∧
      (haltQueue s).roomPointer = s.roomPointer ∧ (haltQueue s).ingress = s.ingress ∧
      (haltQueue s).err = s.err ∧ (haltQueue s).alert = s.alert ∧
      (haltQueue s).rsWire = s.rsWire ∧ (haltQueue s).pending = s.pending := by
  unfold haltQueue
  simp

@[simp] theorem haltTeardown_keeps (s : State) :
      (haltTeardown s).commandCode = s.commandCode ∧ (haltTeardown s).commandArg = s.commandArg ∧
      (haltTeardown s).commandRefused = s.commandRefused ∧ (haltTeardown s).farSource = s.farSource ∧
      (haltTeardown s).mgmtQueue = s.mgmtQueue ∧ (haltTeardown s).mgmtSlots = s.mgmtSlots ∧
      (haltTeardown s).banks = s.banks ∧ (haltTeardown s).activeBank = s.activeBank ∧
      (haltTeardown s).swapCount = s.swapCount ∧ (haltTeardown s).timeoutLimits = s.timeoutLimits ∧
      (haltTeardown s).quarantineLimit = s.quarantineLimit ∧ (haltTeardown s).strapPins = s.strapPins ∧
      (haltTeardown s).tick = s.tick ∧ (haltTeardown s).rqLink = s.rqLink ∧
      (haltTeardown s).rsLink = s.rsLink ∧ (haltTeardown s).rqCredits = s.rqCredits ∧
      (haltTeardown s).rsCredits = s.rsCredits ∧ (haltTeardown s).pending = s.pending := by
  unfold haltTeardown
  simp

@[simp] theorem flushQueue_keeps (n : SourceId) (s : State) :
      (flushQueue n s).opState = s.opState ∧ (flushQueue n s).commandCode = s.commandCode ∧
      (flushQueue n s).commandArg = s.commandArg ∧ (flushQueue n s).commandRefused = s.commandRefused ∧
      (flushQueue n s).farSource = s.farSource ∧ (flushQueue n s).mgmtQueue = s.mgmtQueue ∧
      (flushQueue n s).mgmtSlots = s.mgmtSlots ∧ (flushQueue n s).haltRequested = s.haltRequested ∧
      (flushQueue n s).sources = s.sources ∧ (flushQueue n s).banks = s.banks ∧
      (flushQueue n s).activeBank = s.activeBank ∧ (flushQueue n s).swapCount = s.swapCount ∧
      (flushQueue n s).timeoutLimits = s.timeoutLimits ∧ (flushQueue n s).quarantineLimit = s.quarantineLimit ∧
      (flushQueue n s).strapPins = s.strapPins ∧ (flushQueue n s).tags = s.tags ∧
      (flushQueue n s).backlog = s.backlog ∧ (flushQueue n s).slots = s.slots ∧
      (flushQueue n s).lists = s.lists ∧ (flushQueue n s).tick = s.tick ∧
      (flushQueue n s).rqLink = s.rqLink ∧ (flushQueue n s).rsLink = s.rsLink ∧
      (flushQueue n s).rqCredits = s.rqCredits ∧ (flushQueue n s).rsCredits = s.rsCredits ∧
      (flushQueue n s).trafficQueue = s.trafficQueue ∧ (flushQueue n s).malformedList = s.malformedList ∧
      (flushQueue n s).roomPointer = s.roomPointer ∧ (flushQueue n s).ingress = s.ingress ∧
      (flushQueue n s).err = s.err ∧ (flushQueue n s).alert = s.alert ∧
      (flushQueue n s).rsWire = s.rsWire ∧ (flushQueue n s).pending = s.pending := by
  unfold flushQueue
  simp

@[simp] theorem flushList_keeps (n : SourceId) (s : State) :
      (flushList n s).opState = s.opState ∧ (flushList n s).commandCode = s.commandCode ∧
      (flushList n s).commandArg = s.commandArg ∧ (flushList n s).commandRefused = s.commandRefused ∧
      (flushList n s).farSource = s.farSource ∧ (flushList n s).mgmtQueue = s.mgmtQueue ∧
      (flushList n s).mgmtSlots = s.mgmtSlots ∧ (flushList n s).haltRequested = s.haltRequested ∧
      (flushList n s).sources = s.sources ∧ (flushList n s).banks = s.banks ∧
      (flushList n s).activeBank = s.activeBank ∧ (flushList n s).swapCount = s.swapCount ∧
      (flushList n s).timeoutLimits = s.timeoutLimits ∧ (flushList n s).quarantineLimit = s.quarantineLimit ∧
      (flushList n s).strapPins = s.strapPins ∧ (flushList n s).tags = s.tags ∧
      (flushList n s).backlog = s.backlog ∧ (flushList n s).forwardQueue = s.forwardQueue ∧
      (flushList n s).headPhase = s.headPhase ∧ (flushList n s).tick = s.tick ∧
      (flushList n s).rqLink = s.rqLink ∧ (flushList n s).rsLink = s.rsLink ∧
      (flushList n s).rqCredits = s.rqCredits ∧ (flushList n s).rsCredits = s.rsCredits ∧
      (flushList n s).trafficQueue = s.trafficQueue ∧ (flushList n s).malformedList = s.malformedList ∧
      (flushList n s).roomPointer = s.roomPointer ∧ (flushList n s).ingress = s.ingress ∧
      (flushList n s).err = s.err ∧ (flushList n s).alert = s.alert ∧
      (flushList n s).rqWire = s.rqWire ∧ (flushList n s).rsWire = s.rsWire ∧
      (flushList n s).pending = s.pending := by
  unfold flushList
  refine ⟨?_, ?_, ?_, ?_, ?_, ?_, ?_, ?_, ?_, ?_, ?_, ?_, ?_, ?_, ?_, ?_, ?_, ?_, ?_, ?_, ?_, ?_, ?_, ?_, ?_, ?_, ?_, ?_, ?_, ?_, ?_, ?_, ?_⟩ <;>
  · refine foldl_keeps (fun s t => ?_) _ s
    simp

@[simp] theorem flushSource_keeps (n : SourceId) (s : State) :
      (flushSource n s).commandCode = s.commandCode ∧ (flushSource n s).commandArg = s.commandArg ∧
      (flushSource n s).commandRefused = s.commandRefused ∧ (flushSource n s).farSource = s.farSource ∧
      (flushSource n s).mgmtQueue = s.mgmtQueue ∧ (flushSource n s).mgmtSlots = s.mgmtSlots ∧
      (flushSource n s).haltRequested = s.haltRequested ∧ (flushSource n s).banks = s.banks ∧
      (flushSource n s).activeBank = s.activeBank ∧ (flushSource n s).swapCount = s.swapCount ∧
      (flushSource n s).timeoutLimits = s.timeoutLimits ∧ (flushSource n s).quarantineLimit = s.quarantineLimit ∧
      (flushSource n s).strapPins = s.strapPins ∧ (flushSource n s).tick = s.tick ∧
      (flushSource n s).rqLink = s.rqLink ∧ (flushSource n s).rsLink = s.rsLink ∧
      (flushSource n s).rqCredits = s.rqCredits ∧ (flushSource n s).rsCredits = s.rsCredits ∧
      (flushSource n s).malformedList = s.malformedList ∧ (flushSource n s).roomPointer = s.roomPointer ∧
      (flushSource n s).ingress = s.ingress ∧ (flushSource n s).err = s.err ∧
      (flushSource n s).alert = s.alert ∧ (flushSource n s).rsWire = s.rsWire ∧
      (flushSource n s).pending = s.pending := by
  unfold flushSource
  simp

@[simp] theorem softReset_keeps (s : State) :
      (softReset s).commandCode = s.commandCode ∧ (softReset s).commandArg = s.commandArg ∧
      (softReset s).commandRefused = s.commandRefused ∧ (softReset s).farSource = s.farSource ∧
      (softReset s).mgmtQueue = s.mgmtQueue ∧ (softReset s).mgmtSlots = s.mgmtSlots ∧
      (softReset s).haltRequested = s.haltRequested ∧ (softReset s).banks = s.banks ∧
      (softReset s).activeBank = s.activeBank ∧ (softReset s).swapCount = s.swapCount ∧
      (softReset s).timeoutLimits = s.timeoutLimits ∧ (softReset s).quarantineLimit = s.quarantineLimit ∧
      (softReset s).strapPins = s.strapPins ∧ (softReset s).tick = s.tick ∧
      (softReset s).rqLink = s.rqLink ∧ (softReset s).rsLink = s.rsLink ∧
      (softReset s).rqCredits = s.rqCredits ∧ (softReset s).rsCredits = s.rsCredits ∧
      (softReset s).roomPointer = s.roomPointer ∧ (softReset s).err = s.err ∧
      (softReset s).alert = s.alert ∧ (softReset s).pending = s.pending := by
  unfold softReset; dsimp only
  exact ⟨(foldl_keeps (f := State.commandCode) (fun s a => by simp) _ _).trans (by simp),
    (foldl_keeps (f := State.commandArg) (fun s a => by simp) _ _).trans (by simp),
    (foldl_keeps (f := State.commandRefused) (fun s a => by simp) _ _).trans (by simp),
    (foldl_keeps (f := State.farSource) (fun s a => by simp) _ _).trans (by simp),
    (foldl_keeps (f := State.mgmtQueue) (fun s a => by simp) _ _).trans (by simp),
    (foldl_keeps (f := State.mgmtSlots) (fun s a => by simp) _ _).trans (by simp),
    (foldl_keeps (f := State.haltRequested) (fun s a => by simp) _ _).trans (by simp),
    (foldl_keeps (f := State.banks) (fun s a => by simp) _ _).trans (by simp),
    (foldl_keeps (f := State.activeBank) (fun s a => by simp) _ _).trans (by simp),
    (foldl_keeps (f := State.swapCount) (fun s a => by simp) _ _).trans (by simp),
    (foldl_keeps (f := State.timeoutLimits) (fun s a => by simp) _ _).trans (by simp),
    (foldl_keeps (f := State.quarantineLimit) (fun s a => by simp) _ _).trans (by simp),
    (foldl_keeps (f := State.strapPins) (fun s a => by simp) _ _).trans (by simp),
    (foldl_keeps (f := State.tick) (fun s a => by simp) _ _).trans (by simp),
    (foldl_keeps (f := State.rqLink) (fun s a => by simp) _ _).trans (by simp),
    (foldl_keeps (f := State.rsLink) (fun s a => by simp) _ _).trans (by simp),
    (foldl_keeps (f := State.rqCredits) (fun s a => by simp) _ _).trans (by simp),
    (foldl_keeps (f := State.rsCredits) (fun s a => by simp) _ _).trans (by simp),
    (foldl_keeps (f := State.roomPointer) (fun s a => by simp) _ _).trans (by simp),
    (foldl_keeps (f := State.err) (fun s a => by simp) _ _).trans (by simp),
    (foldl_keeps (f := State.alert) (fun s a => by simp) _ _).trans (by simp),
    (foldl_keeps (f := State.pending) (fun s a => by simp) _ _).trans (by simp)⟩

end Sys2Proof.Machine
end

