-- ==== Sys2Proof/Laws/Manage.lean ====
section
/-! SUPPORT. What the taking step of the Management Agent does with a request that passes its checks, said once for every row. -/

namespace Sys2Proof.Machine

/-- The offset of `Taken` is the offset the model computes (R169). -/
theorem Taken.wordOffset {s : State} {r : Request} {rest off} (h : Taken s r rest off) :
    wordOffset r.address = off := by
  have := h.offset
  simp only [Machine.wordOffset, Config.apertureBase]; omega

/-- The word a taken request addresses (R194). -/
theorem Taken.word {s : State} {r : Request} {rest off} (h : Taken s r rest off) :
    r.word = mgmtWordAt off := by
  rw [Request.word, h.wordOffset]

/-- A taken request finds its slot (R170). -/
theorem Taken.canTake {s : State} {r : Request} {rest off} (h : Taken s r rest off) :
    s.canTake r = true := by
  have := h.slot
  rcases this with h | h <;> simp [State.canTake, Config.responseSlots, h]

/-- A taken request passes the three checks (R172). -/
theorem Taken.checkFailure {s : State} {r : Request} {rest off} (h : Taken s r rest off) :
    s.checkFailure r = none := by
  have h3 := h.assigned
  simp [State.checkFailure, h.valid, h.permission, h.one, h.word]
  cases h : mgmtWordAt off <;> simp_all

/-- The answer placed and the request gone, in the words of the statements (R170, R171). -/
theorem finish_place (r : Request) (rest) (a : Answer) (s : State) (h : s.mgmtQueue = r :: rest) :
    finishRequest (placeManagementAnswer r a s) = answered r rest a.body s := by
  unfold finishRequest placeManagementAnswer answered returnRqCredits State.rqSent
  cases hk : s.rqLink <;> by_cases hw : r.kind = .write <;> simp [hw, hk, h, indicationByte, PoolCode.code]

/-- The value a taken write supplies (R174). -/
theorem WriteTaken.value {s : State} {r : Request} {rest off v} (h : WriteTaken s r rest off v) : r.value = v := by
  simp [Request.value, h.payload]

/-- The command word, in the words of the statements (R175). -/
theorem showCommand_shown {r : Request} {v} (h : r.value = v) (b) (u : State) : showCommand r b u = shown v b u := by
  simp [showCommand, shown, h, commandCodeOf, commandArgOf]

/-- The taking step of a row on a request of that row that passes the checks. -/
theorem takeRequest_taken {s : State} {r : Request} {rest off} (h : Taken s r rest off) (row)
    (hr : r.row = row) (handle : Request → State → State × Answer)
    (hq : (handle r s).1.mgmtQueue = s.mgmtQueue) :
    takeRequest row handle s = issueAfter s (answered r rest (handle r s).2.body (handle r s).1) := by
  unfold takeRequest
  rw [h.oldest]
  simp only [hr, decide_true, h.canTake, Bool.and_self, if_true, carryOut, h.checkFailure]
  rw [finish_place _ rest]
  rw [hq, h.oldest]

/-- The taking step on a write that its rule accepts (R174). -/
theorem takeRequest_write {s : State} {r : Request} {rest off v} (h : WriteTaken s r rest off v) (row)
    (hr : r.row = row) (apply : Request → State → Option State) (s' : State)
    (ha : apply r s = some s') (hq : s'.mgmtQueue = s.mgmtQueue) :
    takeRequest row (writeWith apply) s = issueAfter s (answered r rest .done s') := by
  rw [takeRequest_taken h.toTaken row hr]
  · simp [writeWith, h.clean, ha, Answer.body]
  · simp [writeWith, h.clean, ha, hq]

/-- The taking step on a write that its rule refuses (R174). -/
theorem takeRequest_write_refused {s : State} {r : Request} {rest off v} (h : WriteTaken s r rest off v) (row)
    (hr : r.row = row) (apply : Request → State → Option State)
    (ha : apply r s = none)  :
    takeRequest row (writeWith apply) s = issueAfter s (refusedWith r rest .denied s) := by
  rw [takeRequest_taken h.toTaken row hr]
  · simp [writeWith, h.clean, ha, Answer.body, refuse, refusedWith]; rfl
  · simp [writeWith, h.clean, ha, refuse]

/-- The taking step on a command that is carried out (R175). -/
theorem takeRequest_command {s : State} {r : Request} {rest off v} (h : WriteTaken s r rest off v) (row)
    (hr : r.row = row) (eff : BitVec 8 → State → Option State) (s' : State)
    (ha : eff (commandArgOf v) s = some s') (hq : s'.mgmtQueue = s.mgmtQueue) :
    takeRequest row (commandWith eff) s = issueAfter s (answered r rest .done (shown v false s')) := by
  rw [takeRequest_taken h.toTaken row hr]
  · simp [commandWith, h.clean, ha, Answer.body, h.value, showCommand_shown h.value]
  · simp [commandWith, h.clean, ha, hq, h.value, showCommand]

/-- The taking step on a command that is refused (R175). -/
theorem takeRequest_command_refused {s : State} {r : Request} {rest off v} (h : WriteTaken s r rest off v) (row)
    (hr : r.row = row) (eff : BitVec 8 → State → Option State)
    (ha : eff (commandArgOf v) s = none)  :
    takeRequest row (commandWith eff) s = issueAfter s (refusedWith r rest .denied (shown v true s)) := by
  rw [takeRequest_taken h.toTaken row hr]
  · simp [commandWith, h.clean, ha, Answer.body, refuse, refusedWith, h.value, showCommand_shown h.value]; rfl
  · simp [commandWith, h.clean, ha, refuse, showCommand, h.value]

/-- Two states that agree on what issue reads. -/
theorem issuable_congr {s u : State} (h1 : u.forwardQueue = s.forwardQueue) (h2 : u.headPhase = s.headPhase)
  (h3 : u.opState = s.opState) (h4 : u.rsLink = s.rsLink) (h5 : u.rsCredits = s.rsCredits)
  (h6 : u.backlog = s.backlog) (h7 : u.tags = s.tags) (h8 : u.slots = s.slots) : u.issuable = s.issuable := by
  have hr : u.reservedWords = s.reservedWords := by simp [State.reservedWords, State.elements, h8]
  have hg : ∀ c, u.grant c = s.grant c := by
    intro c; simp [State.grant, h5, State.freeTag, h6, h7, State.freeSlot, State.element, h8, hr]
  simp [State.issuable, h1, h2, h3, h4, hg]

/-- A step that changes nothing issue reads issues no head. -/
theorem issueAfter_eq {s u : State} (h1 : u.forwardQueue = s.forwardQueue) (h2 : u.headPhase = s.headPhase)
  (h3 : u.opState = s.opState) (h4 : u.rsLink = s.rsLink) (h5 : u.rsCredits = s.rsCredits)
  (h6 : u.backlog = s.backlog) (h7 : u.tags = s.tags) (h8 : u.slots = s.slots) : issueAfter s u = u := by
  unfold issueAfter issueNow
  rw [issuable_congr h1 h2 h3 h4 h5 h6 h7 h8]
  split
  · rename_i h; simp at h; simp [h.2]
  · rfl

/-- The command code of a value (R196). -/
theorem code_of {v : Word} {n : Nat} (h : v.toNat / 2 ^ 24 = n) : (commandCodeOf v).toNat = n := by
  simp [commandCodeOf, BitVec.extractLsb'_toNat, Nat.shiftRight_eq_div_pow]; have := v.isLt; omega

/-- The argument of a value (R196). -/
theorem arg_of (v : Word) : (commandArgOf v).toNat = v.toNat / 2 ^ 16 % 256 := by
  simp [commandArgOf, BitVec.extractLsb'_toNat, Nat.shiftRight_eq_div_pow]

/-- The row of a command word write (R192). -/
theorem row_command {s : State} {r : Request} {rest v} (h : WriteTaken s r rest 4 v) {n : Nat} (hn : v.toNat / 2 ^ 24 = n) :
   r.row = commandRow (BitVec.ofNat 8 n) := by
  have hc : commandCodeOf v = BitVec.ofNat 8 n := by
    apply BitVec.eq_of_toNat_eq; rw [code_of hn]; simp; have := v.isLt; omega
  have h1 := h.write
  have h2 : r.word = some .command := by rw [h.toTaken.word]; decide
  simp [Request.row, h1, h2, h.value, hc]

end Sys2Proof.Machine
end

