-- ==== Sys2Proof/Laws/Ring.lean ====
section
/-! SUPPORT. What the tests of the Response Matcher, of draining and of the room distribution decide, and the check word one bit at a time. -/

namespace Sys2Proof.Machine

/-! ### The Response Matcher -/

theorem responderStatus_isNone (c : BitVec 4) : responderStatus c = none ↔ c ≠ 1#4 ∧ c ≠ 5#4 := by
  revert c; decide

theorem inconsistent_iff (p : Arrived) (r : ActiveRec) : p.inconsistent r = true ↔ Inconsistent p r := by
  unfold Arrived.inconsistent Inconsistent
  cases p.kind <;> cases r.kind <;> simp [responderStatus_isNone]

theorem deliveringHead_iff (s : State) (n : SourceId) (l : SlotId) :
    s.deliveringHead n l = true ↔
      ∃ e rest, getAt s.lists n = l :: rest ∧ getAt s.slots l = some e ∧ e.state = .awaiting ∧ e.segs = [] := by
  simp only [State.deliveringHead, State.element, Element.delivers, Bool.and_eq_true,
    decide_eq_true_eq, Option.any_eq_true, List.isEmpty_iff]
  constructor
  · rintro ⟨hl, e, he, h⟩
    obtain ⟨rest, hl⟩ := List.head?_eq_some_iff.mp (show (getAt s.lists n).head? = some l from hl)
    exact ⟨e, rest, hl, he, h⟩
  · rintro ⟨e, rest, hl, he, h⟩
    exact ⟨show (getAt s.lists n).head? = some l by rw [hl]; rfl, e, he, h⟩

theorem forwards_iff (s : State) (r : ActiveRec) : s.forwards r = true ↔ Forwarded s r := by
  unfold State.forwards Forwarded
  cases r.link with
  | none => simp
  | some l => simp [deliveringHead_iff]

/-! ### Draining and the ring -/

theorem drainBody_isSome (e : Element) :
    e.drainBody.isSome = true ↔
      e.segs ≠ [] ∨ (e.state = .complete ∧ e.storedDone = true) ∨ ∃ st, e.state = .failed st := by
  unfold Element.drainBody
  cases e.segs <;> cases e.state <;> cases e.storedDone <;> simp

theorem trafficHasRoom_iff (s : State) : s.trafficHasRoom = true ↔ s.trafficQueue.length < 32 := decide_eq_true_iff

/-- The Matcher stands at position 3 alone. -/
theorem at_eq_matcher (k : Fin 36) : Producer.at k = .matcher ↔ k = 3 := by
  revert k; decide

/-- Source `n` stands at position `n + 4` alone. -/
theorem at_eq_drain (k : Fin 36) (n : SourceId) : Producer.at k = .drain n ↔ k.val = n.val + 4 := by
  revert k n; decide +kernel

/-! ### The check word -/

/-- A word goes into the remainder one bit at a time, most significant first (R119). -/
theorem crcBits_eq_foldl (w : Word) (n : Nat) (r : BitVec 16) :
    crcBits w n r = ((List.range n).map fun i => w.getLsbD (n - 1 - i)).foldl crcBit r := by
  induction n generalizing r with
  | zero => rfl
  | succ n ih =>
    rw [crcBits, ih, List.range_succ_eq_map, List.map_cons, List.foldl_cons, List.map_map]
    congr 1
    exact List.map_congr_left fun i _ => by simp only [Function.comp_apply]; congr 1; omega

end Sys2Proof.Machine
end

