-- ==== Sys2Proof/Tests/Slice0.lean ====
section
/-! SUPPORT. Tests: ill-formed commands, values of the manual, one small step for each command, and for every statement with hypotheses a state that meets them. -/

namespace Sys2Proof.Tests

open Sys2Proof.Machine

set_option Elab.async false

/-! ### Ill-formed commands -/

theorem test_refuses_rq_packet_with_indication_bit (ws : List Word) (k : BitVec 16) :
    (Instr.rqArrival 0x85#8 ws k).wellFormed = false := rfl

theorem test_refuses_rs_packet_with_indication_bit (ws : List Word) (k : BitVec 16) :
    (Instr.rsArrival 0x8F#8 ws k).wellFormed = false := rfl

theorem test_refuses_indication_without_its_bit (p : PortId) :
    (Instr.creditReturnIndication p 0x05#8).wellFormed = false := by cases p <;> decide

theorem test_accepts_framing_and_indication (ws : List Word) (k : BitVec 16) :
    (Instr.rqArrival 0x05#8 ws k).wellFormed = true ∧
      (Instr.creditReturnIndication .rq 0x8F#8).wellFormed = true := ⟨rfl, rfl⟩

/-- No row gives bits, so no word spells a command and the queue stays (assumption 7). -/
theorem test_no_word_spells_a_command (s : State) (n w : Nat) :
    decodeTableWord n w = none ∧ s.withFetchWord n w = s := ⟨rfl, rfl⟩

/-! ### Values of the manual -/

/-- Two known values of the check of R119: a word of zeros, and the eight bytes 31h to 38h. -/
theorem test_check_word_examples :
    checkWord [0x00000000#32] = 0x84C0#16 ∧ checkWord [0x31323334#32, 0x35363738#32] = 0xA12B#16 := by
  decide +kernel

/-- The framing and indication bytes of R188. -/
theorem test_framing_bytes :
    framingByte .ordinary = 0x05#8 ∧ framingByte .management = 0x0A#8 ∧ framingByte .ret = 0x0F#8 ∧
      indicationByte .ordinary = 0x85#8 ∧ indicationByte .management = 0x8A#8 ∧
      indicationByte .ret = 0x8F#8 := by
  decide

/-- A header written out from R189: CWRITE, source 3, tag 77h, ordered, override class 2, length 5, address
12_3456_7890h. -/
theorem test_request_header :
    parseRequest .cwrite 0x31BBD805#32 0x00000012#32 0x34567890#32 [] =
      { kind := .cwrite, source := 3, tag := 0x77#8, ordered := true, poison := false, length := 5
        address := 0x1234567890#40, override := some 2, payload := [] } ∧
      headerKind 0x31BBD805#32 = 3#4 := by
  decide +kernel

/-- A header written out from R190: DATA to source 1, tag 10, last flag, one word. -/
theorem test_response_header :
    packResponse { dest := 1, tag := 10#8, body := .data { words := [7#32], last := true, poison := false } } =
      [0x80850401#32, 7#32] := by
  decide +kernel

/-- The ALERT of section 12.5: destination 3, FATAL, kind 3, two records held. -/
theorem test_alert_header :
    packAlert { dest := 3, cls := .fatal, kind := .creditOverrunRq, records := 2, overflowed := false } =
      [0xC1A32000#32] := by
  decide +kernel

/-- Offsets of R194 at the ends of its ranges. -/
theorem test_offsets :
    mgmtWordAt 0x6C = some (.timeoutClass 3) ∧ mgmtWordAt 0x70 = none ∧ mgmtWordAt 0xFC = none ∧
      mgmtWordAt 0x100 = some (.sourceConfig 0) ∧ mgmtWordAt 0x1FC = some (.sourceCount 31) ∧
      mgmtWordAt 0x200 = none ∧ mgmtWordAt 0x4FC = some (.staging 15 3) ∧
      mgmtWordAt 0x500 = some (.active 0 0) ∧ mgmtWordAt 0x600 = none ∧
      mgmtWordAt 0x9FC = some (.tagSecond 63) ∧ mgmtWordAt 0xA00 = none := by
  decide +kernel

/-- The layout puts each word at its offset, here at the ends of the ranges of R194. -/
theorem test_offsets_of_words :
    ∀ m ∈ [MgmtWord.identification, .alertStatus, .timeoutClass 3, .sourceConfig 0, .sourceCount 31, .staging 15 3,
        .active 0 0, .tagFirst 0, .tagSecond 63],
      m.offset % 4 = 0 ∧ mgmtWordAt m.offset = some m := by
  decide +kernel

/-! ### Small states -/

/-- Both links UP with four credits each. -/
def start : State := { State.reset with rqLink := .up, rsLink := .up, rqCredits := 4, rsCredits := 4 }

def request (kind : ReqKind) (length : Nat) (a : Address) : Request :=
  { kind := kind, source := 0, tag := 10#8, ordered := false, poison := false, length := length, address := a
    override := none, payload := if kind = .read then [] else List.replicate length 7#32 }

/-- 4096 bytes from 1000h on, READ-WRITE for every group, translated to 2000h. -/
def window0 : Window :=
  { valid := true, base := 1#28, sizeExp := 12#6, access := .readWrite, groups := 15#4, transBase := 2#28
    cls := 0, absorb := false }

def withWindow (w : Window) (s : State) : State :=
  { s with banks := putAt s.banks 0 (putAt (getAt s.banks 0) 0 w) }

def withHead (r : Request) (p : HeadPhase) (s : State) : State :=
  { s with forwardQueue := [{ req := r, mark := false }], headPhase := p }

def plan (cls : IssueClass) (ordered : Bool) (reservation : Nat) : Classified :=
  { cls := cls, window := 0, bank := 0, base := 1#28, transBase := 2#28, timeoutClass := 0
    ordered := ordered, reservation := reservation }

def entry (kind : EntryKind) (length : Nat) (absorbed : Bool) (link : Option SlotId) : ActiveRec :=
  { source := 0, tag := 10#8, kind := kind, length := length, received := 0, window := 0, bank := 0
    limit := 10#12, issueTick := 0#16, ordered := link.isSome, absorbed := absorbed, delivered := false
    link := link }

def withTag (g : PoolTag) (x : TagState) (s : State) : State := { s with tags := putAt s.tags g x }

def element (kind : EntryKind) (reservation : Nat) (segs : List Segment) : Element :=
  { state := .awaiting, tag := 10#8, kind := kind, reservation := reservation, segs := segs
    storedDone := false, link := some 0 }

def abandoned : QuarRec := { source := 0, tag := 10#8, kind := .read, startTick := 0#16, limit := 20#12 }

def packet (kind : RespKind) (tag : BitVec 8) (status : BitVec 4) (data : List Word) (last : Bool) : Arrived :=
  { kind := kind, dest := 0, tag := tag, status := status, last := last, poison := false, data := data }

def withIngress (p : Arrived) (s : State) : State := { s with ingress := [p] }

def answer0 : Response := { dest := 0, tag := 1#8, body := .done }

def withTraffic (n : Nat) (s : State) : State := { s with trafficQueue := List.replicate n answer0 }

/-- A CWRITE of one word at a word offset. -/
def cwriteAt (off : Nat) (v : Word) : Request :=
  { kind := .cwrite, source := 0, tag := 9#8, ordered := false, poison := false, length := 1
    address := BitVec.ofNat 40 (0xFFFFFF0000 + off), override := none, payload := [v] }

def readAt (off : Nat) : Request := { cwriteAt off 0#32 with kind := .read, payload := [] }

def asked (r : Request) (s : State) : State := { s with mgmtQueue := [r] }

/-- The next state has the property. -/
def ends (o : Host.Outcome State Fault Refusal) (p : State → Bool) : Bool :=
  match o with
  | .next t => p t
  | _ => false

/-- An answer of the Management Agent in the first slot. -/
def answers (b : Body) (t : State) : Bool := decide (t.mgmtSlots = [{ dest := 0, tag := 9#8, body := b }])

/-! ### One step of each command -/

/-- Section 12.2: the strap pins select source 3. -/
theorem test_device_reset :
    ends (exec (.deviceReset 3) start) (fun t => decide (t.rqLink = .down) && decide (t.readWord (.sourceConfig 3) = 0x1041#32) && decide (t.readWord (.sourceConfig 0) = 0#32)) = true := by
  decide +kernel

/-- Section 12.2: 32 ORDINARY and 2 MANAGEMENT indications. -/
theorem test_rq_link_up :
    ends (exec .rqLinkUp State.reset) (fun t => decide (t.rqWire = List.replicate 32 (.indication 0x85#8) ++ List.replicate 2 (.indication 0x8A#8)) && decide (t.rqLink = .up)) = true := by
  decide +kernel

/-- The queue is emptied and LINK_DOWN_RQ is FATAL. -/
theorem test_rq_link_down :
    ends (exec .rqLinkDown (withTraffic 2 start)) (fun t => decide (t.rqLink = .down) && decide (t.trafficQueue = []) && decide (t.haltRequested = true) && decide ((t.err.item .linkDownRq).status = true)) = true := by
  decide +kernel

/-- Section 12.2: 16 RETURN indications. -/
theorem test_rs_link_up :
    ends (exec .rsLinkUp State.reset) (fun t => decide (t.rsWire = List.replicate 16 (.indication 0x8F#8)) && decide (t.rsCredits = 0)) = true := by
  decide +kernel

/-- An unordered entry is answered LINK_DOWN and its tag is FREE. -/
theorem test_rs_link_down :
    ends (exec .rsLinkDown (withTag 5 (.active (entry .read 2 false none)) start)) (fun t => decide (t.trafficQueue = [{ dest := 0, tag := 10#8, body := .fail .linkDown }]) && decide (getAt t.tags 5 = .free) && decide (t.rsLink = .down)) = true := by
  decide +kernel

/-- A FATAL report in HALTED: status and record are made, and no halt request is left for a later HALT. -/
theorem test_report_in_halted :
    ends (exec .rsLinkDown { start with opState := .halted }) (fun t => decide (t.opState = .halted) && decide (t.haltRequested = false) && decide ((t.err.item .linkDownRs).status = true) && decide (t.err.records.length = 1)) = true := by
  decide +kernel

/-- A READ of address 1000h joins the Forward Queue. -/
theorem test_rq_arrival :
    ends (exec (.rqArrival 0x05#8 [0x10050001#32, 0#32, 0x1000#32] (checkWord [0x10050001#32, 0#32, 0x1000#32])) start) (fun t => decide (t.forwardQueue = [{ req := request .read 1 0x1000#40, mark := false }])) = true := by
  decide +kernel

/-- A packet whose check word differs returns its credit. -/
theorem test_rq_arrival_integrity :
    ends (exec (.rqArrival 0x05#8 [0x10050001#32, 0#32, 0x1000#32] 0#16) start) (fun t => decide (t.rqWire = [.indication 0x85#8]) && decide ((t.err.item .integrityRq).status = true) && decide (t.forwardQueue = [])) = true := by
  decide +kernel

/-- A DONE for pool tag 3 joins the ingress buffer. -/
theorem test_rs_arrival :
    ends (exec (.rsArrival 0x0F#8 [0x90018000#32] (checkWord [0x90018000#32])) start) (fun t => decide (t.ingress = [packet .done 3#8 0#4 [] false])) = true := by
  decide +kernel

/-- One more RQ transmit credit. -/
theorem test_credit_return :
    ends (exec (.creditReturnIndication .rq 0x8F#8) start) (fun t => decide (t.rqCredits = 5) && decide (t.rsCredits = 4)) = true := by
  decide +kernel

/-- Section 12.4: the event making the count 210 expires an entry issued at 200. -/
theorem test_tick_event :
    ends (exec .tickEvent { withTag 0 (.active { entry .read 32 false none with issueTick := 200#16 }) start with tick := { start.tick with downCounter := 0#16, count := 209#16 } }) (fun t => decide (t.tick.count = 210#16) && decide (t.tick.downCounter = 976#16) && decide (getAt t.tags 0 = .quarantined { abandoned with startTick := 210#16 }) && decide (t.trafficQueue.length = 1)) = true := by
  decide +kernel

/-- An entry at its limit is answered FAIL TIMEOUT. -/
theorem test_expiry :
    ends (exec (.expiry 7) { withTag 7 (.active (entry .cwrite 0 false none)) start with tick := { start.tick with count := 10#16 } }) (fun t => decide (t.trafficQueue = [{ dest := 0, tag := 10#8, body := .fail .timeout }]) && decide ((getAt t.tags 7).isQuarantined)) = true := by
  decide +kernel

/-- A quarantine at its limit ends; one tick earlier it does not. -/
theorem test_lapse :
    ends (exec (.lapse 7) { withTag 7 (.quarantined abandoned) start with tick := { start.tick with count := 20#16 } }) (fun t => decide (getAt t.tags 7 = .free)) = true := by
  decide +kernel

/-- The head of a READ inside the window is CLASSIFIED. -/
theorem test_classification :
    ends (exec .classification (withWindow window0 (withHead (request .read 1 0x1000#40) .new start))) (fun t => decide (t.headPhase = .classified (plan .nonPosted false 0))) = true := by
  decide +kernel

/-- No window covers the address. -/
theorem test_classification_no_window :
    ends (exec .classification (withWindow window0 (withHead (request .read 1 0x2000#40) .new start))) (fun t => decide (t.headPhase = .answering .unsupported) && decide ((t.err.item .noWindow).status = true)) = true := by
  decide +kernel

/-- The rewritten READ leaves under tag 0, its address translated by 1000h. -/
theorem test_issue :
    ends (exec .issue (withHead (request .read 1 0x1004#40) (.classified (plan .nonPosted false 0)) start)) (fun t => decide (t.rsWire = [.packet 0x05#8 [0x10000001#32, 0#32, 0x2004#32] (checkWord [0x10000001#32, 0#32, 0x2004#32])]) && decide (getAt t.tags 0 = .active (entry .read 1 false none)) && decide ((getAt t.sources 0).count = 1) && decide (t.rsCredits = 3) && decide (t.forwardQueue = [])) = true := by
  decide +kernel

/-- An ordered READ takes an element slot too. -/
theorem test_issue_ordered :
    ends (exec .issue (withHead (request .read 2 0x1004#40) (.classified (plan .nonPosted true 2)) start)) (fun t => decide (getAt t.lists 0 = [0]) && decide (getAt t.slots 0 = some (element .read 2 [])) && decide (t.reservedWords = 2)) = true := by
  decide +kernel

/-- A plain posted WRITE takes a credit and nothing else. -/
theorem test_issue_plain_posted :
    ends (exec .issuePlainPosted (withHead (request .write 1 0x1000#40) (.classified (plan .plainPosted false 0)) start)) (fun t => decide (t.rsCredits = 3) && decide (t.tags = start.tags) && decide (t.rsWire.length = 1) && decide (t.forwardQueue = [])) = true := by
  decide +kernel

/-- An ANSWERING head's FAIL enters the Traffic Queue. -/
theorem test_answer_placement :
    ends (exec .answerPlacement (withHead (request .read 1 0x1000#40) (.answering .retry) start)) (fun t => decide (t.trafficQueue = [{ dest := 0, tag := 10#8, body := .fail .retry }]) && decide (t.forwardQueue = [])) = true := by
  decide +kernel

/-- The oldest backlog answer enters the Traffic Queue. -/
theorem test_backlog_entry :
    ends (exec .backlogEntry { start with backlog := [{ source := 2, tag := 4#8, status := .mismatch }] }) (fun t => decide (t.trafficQueue = [{ dest := 2, tag := 4#8, body := .fail .mismatch }]) && decide (t.backlog = [])) = true := by
  decide +kernel

/-- The oldest FAIL MALFORMED enters and its slot's credit is returned. -/
theorem test_malformed_answer_entry :
    ends (exec .malformedAnswerEntry { start with malformedList := [{ dest := 2, tag := 4#8, pool := .management }] }) (fun t => decide (t.trafficQueue = [{ dest := 2, tag := 4#8, body := .fail .malformed }]) && decide (t.rqWire = [.indication 0x8A#8])) = true := by
  decide +kernel

/-- The last segment of an unordered READ is forwarded and its tag is FREE. -/
theorem test_matcher_take :
    ends (exec .matcherTake (withIngress (packet .data 3#8 0#4 [7#32] true) (withTag 3 (.active (entry .read 1 false none)) start))) (fun t => decide (t.trafficQueue = [{ dest := 0, tag := 10#8, body := .data { words := [7#32], last := true, poison := false } }]) && decide (getAt t.tags 3 = .free) && decide (t.rsWire = [.indication 0x8F#8])) = true := by
  decide +kernel

/-- A response under a FREE tag is unexpected. -/
theorem test_matcher_take_unexpected :
    ends (exec .matcherTake (withIngress (packet .done 3#8 0#4 [] false) start)) (fun t => decide ((t.err.item .unexpectedResponse).status = true) && decide (t.ingress = []) && decide (t.trafficQueue = [])) = true := by
  decide +kernel

/-- A FAILED head sends its FAIL and leaves. -/
theorem test_drain_step :
    ends (exec (.drainStep 0) { start with lists := putAt start.lists 0 [4], slots := putAt start.slots 4 (some { element .read 0 [] with state := .failed .timeout, link := none }), sources := putAt start.sources 0 { getAt start.sources 0 with count := 1 } }) (fun t => decide (t.trafficQueue = [{ dest := 0, tag := 10#8, body := .fail .timeout }]) && decide (getAt t.lists 0 = []) && decide (getAt t.slots 4 = none) && decide ((getAt t.sources 0).count = 0)) = true := by
  decide +kernel

/-- The head of the Traffic Queue leaves with one credit. -/
theorem test_transmit_step :
    ends (exec .transmitStep (withTraffic 2 start)) (fun t => decide (t.rqCredits = 3) && decide (t.trafficQueue.length = 1) && decide (t.rqWire = [.packet 0x0F#8 [0x90008000#32] (checkWord [0x90008000#32])])) = true := by
  decide +kernel

/-- Section 12.5: an entry is answered HALTED, the WRITE leaves, the READ is marked. -/
theorem test_halt :
    ends (exec .halt { withTag 0 (.active (entry .read 1 false none)) start with haltRequested := true, forwardQueue := [{ req := request .read 1 0x1000#40, mark := false }, { req := request .write 1 0x1000#40, mark := false }] }) (fun t => decide (t.opState = .halted) && decide (t.forwardQueue = [{ req := request .read 1 0x1000#40, mark := true }]) && decide (t.trafficQueue = [{ dest := 0, tag := 10#8, body := .fail .halted }]) && decide (t.rqWire = [.indication 0x85#8])) = true := by
  decide +kernel

/-- Section 12.2: bank 1 ACTIVE, swap count 1. -/
theorem test_swap_banks :
    ends (exec .swapBanks (asked (cwriteAt 4 0x01000000#32) start)) (fun t => answers .done t && decide (t.readWord .bankStatus = 0x00010001#32) && decide (t.readWord .command = 0x01000000#32)) = true := by
  decide +kernel

/-- The STAGING bank holds the ACTIVE map. -/
theorem test_copy_active_to_staging :
    ends (exec .copyActiveToStaging (asked (cwriteAt 4 0x02000000#32) (withWindow window0 start))) (fun t => answers .done t && decide (getAt (getAt t.banks 1) 0 = window0)) = true := by
  decide +kernel

/-- QUIESCE with no tag ACTIVE. -/
theorem test_quiesce :
    ends (exec .quiesce (asked (cwriteAt 4 0x03000000#32) start)) (fun t => answers .done t && decide (t.opState = .quiesced)) = true := by
  decide +kernel

/-- RESUME from QUIESCED. -/
theorem test_resume :
    ends (exec .resume (asked (cwriteAt 4 0x04000000#32) { start with opState := .quiesced })) (fun t => answers .done t && decide (t.opState = .run)) = true := by
  decide +kernel

/-- Section 12.5: RESUME is refused while the fatal condition holds. -/
theorem test_resume_refused :
    ends (exec .resume (asked (cwriteAt 4 0x04000000#32) { start with opState := .halted, err := start.err.setStatus .creditOverrunRq })) (fun t => answers (.fail .denied) t && decide (t.opState = .halted) && decide (t.commandRefused = true) && decide ((t.err.item .mgmtRefused).status = true)) = true := by
  decide +kernel

/-- FLUSH_SOURCE(0) quarantines the entry and sends nothing. -/
theorem test_flush_source :
    ends (exec .flushSource (asked (cwriteAt 4 0x05000000#32) (withTag 0 (.active (entry .read 1 false none)) start))) (fun t => answers .done t && decide ((getAt t.tags 0).isQuarantined) && decide (t.trafficQueue = [])) = true := by
  decide +kernel

/-- SOFT_RESET frees the tag and leaves QUIESCED. -/
theorem test_soft_reset :
    ends (exec .softReset (asked (cwriteAt 4 0x06000000#32) (withTag 0 (.active (entry .read 1 false none)) start))) (fun t => answers .done t && decide (getAt t.tags 0 = .free) && decide (t.opState = .quiesced)) = true := by
  decide +kernel

/-- ALERT_ACK(FATAL) of an OUTSTANDING class. -/
theorem test_alert_ack :
    ends (exec .alertAck (asked (cwriteAt 4 0x07010000#32) { start with alert := { start.alert with fatal := { enable := true, state := .outstanding, latest := some .linkDownRs, slot := none } } })) (fun t => answers .done t && decide (t.alert.fatal.state = .idle)) = true := by
  decide +kernel

/-- The oldest record leaves. -/
theorem test_pop_record :
    ends (exec .popRecord (asked (cwriteAt 4 0x08000000#32) (report .integrityRq (some .rq) Ident.none start))) (fun t => answers .done t && decide (t.err.records = []) && decide ((t.err.item .integrityRq).status = true)) = true := by
  decide +kernel

/-- POP_RECORD on an empty queue is refused. -/
theorem test_pop_record_empty :
    ends (exec .popRecord (asked (cwriteAt 4 0x08000000#32) start)) (fun t => answers (.fail .denied) t && decide (t.readWord .command = 0x08000001#32)) = true := by
  decide +kernel

/-- Every record leaves. -/
theorem test_clear_records :
    ends (exec .clearRecords (asked (cwriteAt 4 0x09000000#32) (report .integrityRq (some .rq) Ident.none (report .integrityRs (some .rs) Ident.none start)))) (fun t => answers .done t && decide (t.err.records = []) && decide (t.err.overflowed = false)) = true := by
  decide +kernel

/-- Section 12.5: CLEAR_STATUS(3). -/
theorem test_clear_status :
    ends (exec .clearStatus (asked (cwriteAt 4 0x0A030000#32) { start with err := start.err.setStatus .creditOverrunRq })) (fun t => answers .done t && decide ((t.err.item .creditOverrunRq).status = false)) = true := by
  decide +kernel

/-- Section 12.2, step 4: source 1 configured. -/
theorem test_source_configuration_write :
    ends (exec .sourceConfigurationWrite (asked (cwriteAt 0x108 0x00010083#32) start)) (fun t => answers .done t && decide (getAt t.sources 1 = { valid := true, group := 1, quota := 8#5, permission := false, order := .all, count := 0 })) = true := by
  decide +kernel

/-- Section 12.2, step 5: the base of STAGING window 0. -/
theorem test_staging_window_write :
    ends (exec .stagingWindowWrite (asked (cwriteAt 0x408 0x01000000#32) start)) (fun t => answers .done t && decide (getAt (getAt t.banks 1) 0 = { Window.unset with base := 0x1000000#28 })) = true := by
  decide +kernel

/-- A size of 11 is refused. -/
theorem test_staging_window_write_refused :
    ends (exec .stagingWindowWrite (asked (cwriteAt 0x404 11#32) start)) (fun t => answers (.fail .denied) t && decide (t.banks = start.banks)) = true := by
  decide +kernel

/-- A limit of 4095. -/
theorem test_timeout_class_write :
    ends (exec .timeoutClassWrite (asked (cwriteAt 0x6C 4095#32) start)) (fun t => answers .done t && decide (getAt t.timeoutLimits 3 = 4095#12)) = true := by
  decide +kernel

/-- A limit of 0 is refused. -/
theorem test_quarantine_limit_write_refused :
    ends (exec .quarantineLimitWrite (asked (cwriteAt 0x18 0#32) start)) (fun t => answers (.fail .denied) t && decide (t.quarantineLimit = 20#12)) = true := by
  decide +kernel

/-- A limit of 1. -/
theorem test_quarantine_limit_write :
    ends (exec .quarantineLimitWrite (asked (cwriteAt 0x18 1#32) start)) (fun t => answers .done t && decide (t.quarantineLimit = 1#12)) = true := by
  decide +kernel

/-- The period becomes pending and the one in force stays. -/
theorem test_tick_period_write :
    ends (exec .tickPeriodWrite (asked (cwriteAt 0x1C 0x00010003#32) start)) (fun t => answers .done t && decide (t.tick = { start.tick with pendingPeriod := some (.div4096, 1#16) }) && decide (t.readWord .tickCount = 0x00010000#32)) = true := by
  decide +kernel

/-- The run flag clear. -/
theorem test_tick_run_write :
    ends (exec .tickRunWrite (asked (cwriteAt 0x20 0#32) start)) (fun t => answers .done t && decide (t.tick.run = false)) = true := by
  decide +kernel

/-- The mask of kind 20 alone. -/
theorem test_error_mask_write :
    ends (exec .errorMaskWrite (asked (cwriteAt 0x34 0x00100000#32) start)) (fun t => answers .done t && decide (t.readWord .errorMask = 0x00100000#32) && decide ((t.err.item .malformedResponse).mask = true)) = true := by
  decide +kernel

/-- Kinds 11 to 20 made FATAL. -/
theorem test_error_severity_write :
    ends (exec .errorSeverityWrite (asked (cwriteAt 0x3C 0x00055555#32) start)) (fun t => answers .done t && decide (t.readWord (.errorSeverity true) = 0x00055555#32) && decide (t.readWord (.errorSeverity false) = 0x000EAA5F#32)) = true := by
  decide +kernel

/-- Halt-on-fatal clear. -/
theorem test_error_control_write :
    ends (exec .errorControlWrite (asked (cwriteAt 0x40 0#32) start)) (fun t => answers .done t && decide (t.err.haltOnFatal = false)) = true := by
  decide +kernel

/-- Section 12.2, step 3: destination 3, FATAL and NONFATAL enabled. -/
theorem test_alert_configuration_write :
    ends (exec .alertConfigurationWrite (asked (cwriteAt 0x58 0x00030103#32) start)) (fun t => answers .done t && decide (t.readWord .alertConfig = 0x00030103#32) && decide (t.alert.dest = 3)) = true := by
  decide +kernel

/-- The far source ID is written in QUIESCED. -/
theorem test_far_source_id_write :
    ends (exec .farSourceIdWrite (asked (cwriteAt 0x0C 31#32) { start with opState := .quiesced })) (fun t => answers .done t && decide (t.farSource = 31)) = true := by
  decide +kernel

/-- Section 12.2, step 1: the identification word. -/
theorem test_management_read :
    ends (exec .managementWrite (asked (readAt 0) start)) (fun t => answers (.data { words := [0xA7D28001#32], last := true, poison := false }) t && decide (t.mgmtQueue = []) && decide (t.rqWire = [.indication 0x8A#8])) = true := by
  decide +kernel

/-- A write of a read-only word is refused. -/
theorem test_management_write :
    ends (exec .managementWrite (asked (cwriteAt 0 1#32) start)) (fun t => answers (.fail .denied) t && decide ((t.err.item .mgmtRefused).status = true)) = true := by
  decide +kernel

/-- A prescaled step lowers the down counter. -/
theorem test_prescaled_step :
    ends (exec .prescaledStep start) (fun t => decide (t.tick.downCounter = 975#16) && decide (t.tick.count = 0#16)) = true := by
  decide +kernel

/-! ### States that meet the hypotheses of the statements -/

theorem test_witness_StepTakesFrontCommand :
    ({ start with pending := [.halt, .issue] } : State).pending = .halt :: [.issue] := rfl

def ticking (division : Nat) (n : BitVec 16) : State :=
  { start with tick := { start.tick with division := division, downCounter := n } }

/-- Division 254 of 256 goes on and 255 ends; a counter of 1 and of 0. -/
theorem test_witness_ClockPeriodAndPrescaledStep :
    (start.pending = [] ∧ { start.tick with run := false }.run = false) ∧
    ((ticking 254 5#16).tick.division + 1 < (ticking 254 5#16).tick.prescale.divisor ∧
      (ticking 255 5#16).tick.prescale.divisor ≤ (ticking 255 5#16).tick.division + 1) ∧
    ((ticking 254 5#16).pending = [] ∧ (ticking 254 5#16).tick.run = true) ∧
    ((ticking 0 1#16).tick.downCounter ≠ 0#16 ∧ (ticking 0 0#16).tick.downCounter = 0#16) := by
  decide +kernel

theorem test_witness_links :
    (State.reset.rqLink = .down ∧ State.reset.rsLink = .down) ∧
      (start.rqLink = .up ∧ start.rsLink = .up) := by
  decide +kernel

/-- A state with nothing in the Forward Queue is sound for its head. -/
theorem headSound_of_empty {s : State} (h : s.forwardQueue = []) (hp : s.headPhase = .new) : HeadSound s where
  empty := fun _ => hp
  marked := by simp [h]
  halted := by simp [h]
  answering := by simp [h]
  unmarked := by simp [h]
  cls := by simp [h]
  ordered := by simp [h]
  reservation := by simp [h]
  room := by simp [h]

/-- So is one with a CLASSIFIED head of 64 words at most, in RUN. -/
theorem headSound_of_plan {s : State} {r : Request} {c : Classified} (h : s.opState = .run)
    (hc : c.cls = .nonPosted ↔ r.kind ≠ .write) (ho : c.ordered = false) (hr : c.reservation = 0)
    (hm : (getAt s.sources r.source).count < 16) : HeadSound (withHead r (.classified c) s) where
  empty := by simp [withHead]
  marked := by simp [withHead]
  halted := by simp [withHead, h]
  answering := by simp [withHead]
  unmarked := by simp [withHead, h]
  cls := by rintro w rest c' ⟨⟩ ⟨⟩; exact hc
  ordered := by rintro w rest c' ⟨⟩ ⟨⟩; simp [ho]
  reservation := by rintro w rest c' ⟨⟩ ⟨⟩; simp [ho, hr]
  room := by rintro w rest c' ⟨⟩ ⟨⟩; exact fun _ => hm

/-- A CLASSIFIED READ, and a CLASSIFIED WRITE, that wait in RUN. -/
def classifiedRead : State :=
  withHead (request .read 1 0x1000#40) (.classified (plan .nonPosted false 0)) start

def classifiedWrite : State :=
  withHead (request .write 1 0x1000#40) (.classified (plan .plainPosted false 0)) start

theorem classifiedRead_sound : HeadSound classifiedRead :=
  headSound_of_plan rfl (by decide) rfl rfl (by decide +kernel)

theorem classifiedWrite_sound : HeadSound classifiedWrite :=
  headSound_of_plan rfl (by decide) rfl rfl (by decide +kernel)

theorem test_witness_RsLinkDownTeardown :
    (HeadSound start ∧ start.rsLink = .up ∧ ∀ c, start.headPhase ≠ .classified c) ∧
    (HeadSound classifiedRead ∧ classifiedRead.rsLink = .up ∧ classifiedRead.opState = .run ∧
      ∃ w rest c, classifiedRead.forwardQueue = w :: rest ∧ classifiedRead.headPhase = .classified c) :=
  ⟨⟨headSound_of_empty rfl rfl, rfl, fun _ h => nomatch h⟩,
    classifiedRead_sound, rfl, rfl, _, _, _, rfl, rfl⟩

/-- Thirty-one requests wait, and thirty-two. -/
def waiting (n : Nat) : State :=
  { start with forwardQueue := List.replicate n { req := request .read 1 0x1000#40, mark := false } }

def managing (n : Nat) : State := { start with mgmtQueue := List.replicate n (readAt 0) }

theorem test_witness_RqArrivalStoppedAtThePort (words : List Word) :
    (start.rqLink = .up ∧ (0x0F#8).toNat % 16 ≠ 5 ∧ (0x0F#8).toNat % 16 ≠ 10) ∧
    ((waiting 32).rqLink = .up ∧ (0x05#8).toNat % 16 = 5 ∧
      32 ≤ (waiting 32).forwardQueue.length + (waiting 32).malformedOf .ordinary) ∧
    ((managing 2).rqLink = .up ∧ (0x0A#8).toNat % 16 = 10 ∧
      2 ≤ (managing 2).mgmtQueue.length + (managing 2).malformedOf .management) ∧
    RqAdmitted (waiting 31) 0x05#8 words (checkWord words) .ordinary ∧
    RqAdmitted (managing 1) 0x0A#8 words (checkWord words) .management :=
  ⟨by decide +kernel, by decide +kernel, by decide +kernel, ⟨rfl, .inl (by decide +kernel), rfl⟩,
    ⟨rfl, .inr (by decide +kernel), rfl⟩⟩

/-- A packet that fails its check, one of kind 0 and of kind 4, one of two words, and one of none. -/
theorem test_witness_RqArrivalStoppedAtThePort_packets :
    checkWord [] ≠ 0#16 ∧
    ((0x00000001#32).toNat / 2 ^ 28 = 0 ∧ 3 < (0x40000001#32).toNat / 2 ^ 28) ∧
    ([0x10000001#32, 0#32] = 0x10000001#32 :: [0#32] ∧ [0#32].length < 2) ∧
    checkWord [] = 0xFFFF#16 := by
  decide +kernel

/-- The words of a request carry it. -/
theorem carries_packRequest : CarriesRequest [0x10050001#32, 0#32, 0x1000#32] (request .read 1 0x1000#40) :=
  ⟨_, _, _, rfl, by decide, by decide, by decide, by decide, by decide, by decide, (fun _ h => nomatch h),
    by decide, by decide⟩

theorem carries_zero_length :
    CarriesRequest [0x30050000#32, 0#32, 0x1000#32] (request .cwrite 0 0x1000#40) :=
  ⟨_, _, _, rfl, by decide, by decide, by decide, by decide, by decide, by decide, (fun _ h => nomatch h),
    by decide, by decide⟩

theorem carries_zero_length_write :
    CarriesRequest [0x20050000#32, 0#32, 0x1000#32] (request .write 0 0x1000#40) :=
  ⟨_, _, _, rfl, by decide, by decide, by decide, by decide, by decide, by decide, (fun _ h => nomatch h),
    by decide, by decide⟩

/-- Length 0 of a WRITE and of a CWRITE, with room, without room, and behind a waiting answer. -/
theorem test_witness_MalformedRequestIsAnswered :
    (RqAdmitted start 0x05#8 [0x20050000#32, 0#32, 0x1000#32] (checkWord [0x20050000#32, 0#32, 0x1000#32])
        .ordinary ∧
      CarriesRequest [0x20050000#32, 0#32, 0x1000#32] (request .write 0 0x1000#40) ∧
      Malformed (request .write 0 0x1000#40) .ordinary) ∧
    (CarriesRequest [0x30050000#32, 0#32, 0x1000#32] (request .cwrite 0 0x1000#40) ∧
      Malformed (request .cwrite 0 0x1000#40) .ordinary ∧
      ∀ s ∈ [withTraffic 31 start, withTraffic 32 start,
          { start with malformedList := [{ dest := 1, tag := 1#8, pool := .ordinary }] }],
        RqAdmitted s 0x05#8 [0x30050000#32, 0#32, 0x1000#32] (checkWord [0x30050000#32, 0#32, 0x1000#32])
          .ordinary) ∧
    ((withTraffic 31 start).malformedList = [] ∧ (withTraffic 31 start).trafficQueue.length < 32) ∧
    32 ≤ (withTraffic 32 start).trafficQueue.length := by
  refine ⟨⟨⟨rfl, .inl (by decide +kernel), rfl⟩, carries_zero_length_write, .inl rfl⟩,
    ⟨carries_zero_length, .inl rfl, ?_⟩, by decide +kernel, by decide +kernel⟩
  intro s hs
  simp only [List.mem_cons, List.not_mem_nil, or_false] at hs
  rcases hs with rfl | rfl | rfl <;> exact ⟨rfl, .inl (by decide +kernel), rfl⟩

/-- A request of length 1 is well-formed in its pool; the last word address below the aperture, and the first in
it. -/
theorem test_witness_WellFormedRequestIsSorted :
    (CarriesRequest [0x10050001#32, 0#32, 0x1000#32] (request .read 1 0x1000#40) ∧
      ¬Malformed (request .read 1 0x1000#40) .ordinary ∧
      RqAdmitted start 0x05#8 [0x10050001#32, 0#32, 0x1000#32] (checkWord [0x10050001#32, 0#32, 0x1000#32])
        .ordinary) ∧
    ¬Malformed (request .write 64 0xFFFFFEFFFC#40) .ordinary ∧
    ¬Malformed (request .write 1 0xFFFFFF0000#40) .management ∧
    ({ start with opState := .halted } : State).opState = .halted := by
  refine ⟨⟨carries_packRequest, ?_, rfl, .inl (by decide +kernel), rfl⟩, ?_, ?_, rfl⟩ <;>
    (unfold Malformed; decide +kernel)

/-- A full ingress buffer, and one with a slot; an empty packet; a DATA of 17 words, of none, a DONE of one, one for
another source, with tag 64 and with tag 63; and responses that join. -/
theorem test_witness_ResponseArrival :
    (start.rsLink = .up ∧ (0x05#8).toNat % 16 ≠ 15 ∧ (0x0F#8).toNat % 16 = 15) ∧
    (16 ≤ (List.replicate 16 (packet .done 3#8 0#4 [] false)).length ∧
      (List.replicate 15 (packet .done 3#8 0#4 [] false)).length < 16) ∧
    checkWord [] = 0xFFFF#16 ∧
    ((0x80000011#32).toNat / 2 ^ 28 = 8 ∧ 16 < (0x80000011#32).toNat % 32) ∧
    ((0x80000000#32).toNat / 2 ^ 28 = 8 ∧ (0x80000000#32).toNat % 32 = 0) ∧
    ((0x90000001#32).toNat / 2 ^ 28 ≠ 8 ∧ (0x90000001#32).toNat % 32 ≠ 0) ∧
    ((0x70000000#32).toNat / 2 ^ 28 < 8 ∧ 10 < (0xC0000000#32).toNat / 2 ^ 28) ∧
    (0x90800000#32).toNat / 2 ^ 23 % 32 ≠ start.farSource.val ∧
    (64 ≤ (0x90A00000#32).toNat / 2 ^ 15 % 256 ∧
      (63 : PoolTag).val = (0x909F8000#32).toNat / 2 ^ 15 % 256) := by
  decide +kernel

theorem test_witness_ResponseArrival_joins :
    (CarriesResponse [0x90018000#32] (packet .done 3#8 0#4 [] false) 0 ∧
      (packet .done 3#8 0#4 [] false).dest = start.farSource) ∧
    (CarriesResponse (0x80018410#32 :: List.replicate 16 7#32)
        (packet .data 3#8 0#4 (List.replicate 16 7#32) true) 16 ∧
      (packet .data 3#8 0#4 (List.replicate 16 7#32) true).data.length = 16) :=
  ⟨⟨⟨_, rfl, by decide, by decide, by decide, by decide, by decide, by decide, by decide⟩, by decide +kernel⟩,
    ⟨_, rfl, by decide, by decide, by decide, by decide, by decide, by decide, by decide⟩, by decide⟩

/-- Indications of both pools at both ports; the RS credits at 0 with a CLASSIFIED head, at 62 and at 63. -/
theorem test_witness_CreditReturnIndications :
    (start.rqLink = .up ∧ (0x8F#8).toNat % 16 = 15 ∧ (0x85#8).toNat % 16 ≠ 15 ∧ (0x85#8).toNat % 16 = 5) ∧
    (({ classifiedRead with rsCredits := 0 } : State).rsCredits = 0 ∧
      ∃ c, ({ classifiedRead with rsCredits := 0 } : State).headPhase = .classified c) ∧
    (({ start with rsCredits := 63 } : State).rsCredits ≠ 0 ∧ ∀ c, start.headPhase ≠ .classified c) :=
  ⟨by decide +kernel, ⟨rfl, _, rfl⟩, by decide, fun _ h => nomatch h⟩

/-- Tags 1 to 4: an entry that is due at count 10, one that is not, a quarantine that is due and one that is
not. -/
def aging : State :=
  withTag 1 (.active (entry .read 1 false none))
    (withTag 2 (.active { entry .read 1 false none with issueTick := 1#16 })
      (withTag 3 (.quarantined { abandoned with limit := 10#12 })
        (withTag 4 (.quarantined { abandoned with limit := 11#12 })
          { start with tick := { start.tick with downCounter := 0#16, count := 9#16 } })))

theorem test_witness_TickEventExpiresAndLapses :
    (aging.quarantineLimit ≠ 0#12 ∧ aging.tick.run = true ∧ aging.tick.downCounter = 0#16) ∧
    (getAt aging.tags 1 = .active (entry .read 1 false none) ∧
      (entry .read 1 false none).limit.toNat ≤
        (aging.tick.count + 1#16 - (entry .read 1 false none).issueTick).toNat) ∧
    (getAt aging.tags 2 = .active { entry .read 1 false none with issueTick := 1#16 } ∧
      (aging.tick.count + 1#16 - 1#16).toNat < (entry .read 1 false none).limit.toNat) ∧
    (getAt aging.tags 3 = .quarantined { abandoned with limit := 10#12 } ∧
      (10#12).toNat ≤ (aging.tick.count + 1#16 - abandoned.startTick).toNat) ∧
    (getAt aging.tags 4 = .quarantined { abandoned with limit := 11#12 } ∧
      (aging.tick.count + 1#16 - abandoned.startTick).toNat < (11#12).toNat) ∧
    getAt aging.tags 0 = .free ∧ start.tick.downCounter ≠ 0#16 := by
  decide +kernel

/-- The tick count `n`. -/
def atCount (n : Tick) (s : State) : State := { s with tick := { s.tick with count := n } }

/-- Source 0's list holds the element of slot 0 alone, and tag 0 is its entry. -/
def ordered1 : State :=
  { withTag 0 (.active (entry .read 2 false (some 0))) start with
    slots := putAt start.slots 0 (some (element .read 2 []))
    lists := putAt start.lists 0 [0]
    sources := putAt start.sources 0 { getAt start.sources 0 with count := 1 } }

theorem ordered1_tag {t : PoolTag} {r : ActiveRec} (h : getAt ordered1.tags t = .active r) :
    t = 0 ∧ r = entry .read 2 false (some 0) := by
  simp only [ordered1, withTag, getAt_putAt] at h
  split at h
  · next h0 => cases h; exact ⟨h0.symm, rfl⟩
  · simp [start, State.reset, State.afterReset] at h

theorem ordered1_slot {l : SlotId} {e : Element} (h : getAt ordered1.slots l = some e) :
    l = 0 ∧ e = element .read 2 [] := by
  simp only [ordered1, getAt_putAt] at h
  split at h
  · next h0 => cases h; exact ⟨h0.symm, rfl⟩
  · simp [start, State.reset, State.afterReset] at h

theorem ordered1_sound : OrderSound ordered1 where
  nodup := by decide +kernel
  disjoint := by
    intro m n l hm hn
    simp only [ordered1, getAt_putAt, start, State.reset, State.afterReset, getAt_fillTable] at hm hn
    split at hm <;> split at hn <;> simp_all
  used := by decide +kernel
  entry := by
    intro t r l h hl
    obtain ⟨rfl, rfl⟩ := ordered1_tag h
    cases hl
    exact ⟨by decide +kernel, element .read 2 [], by decide +kernel, rfl, rfl, rfl, rfl, by decide⟩
  element := by
    intro l e t h hl
    obtain ⟨rfl, rfl⟩ := ordered1_slot h
    cases hl
    exact ⟨entry .read 2 false (some 0), by decide +kernel, rfl⟩
  awaiting := by intro l e h; obtain ⟨rfl, rfl⟩ := ordered1_slot h; decide
  complete := by intro l e h hs; obtain ⟨rfl, rfl⟩ := ordered1_slot h; cases hs
  failed := by intro l e st h hs; obtain ⟨rfl, rfl⟩ := ordered1_slot h; cases hs
  segments := by intro l e g h hg; obtain ⟨rfl, rfl⟩ := ordered1_slot h; cases hg
  stored := by intro l e h; obtain ⟨rfl, rfl⟩ := ordered1_slot h; decide
  reserved := by decide +kernel
  count := by decide +kernel
  countMax := by decide +kernel

/-- The last ACTIVE entry, an ordered one that is due, in QUIESCING: its FAIL leaves the list and the state is
QUIESCED. -/
theorem test_witness_TickEventExpiresAndLapses_ordered :
    let s := { ordered1 with opState := .quiescing, tick := { start.tick with downCounter := 0#16, count := 9#16 } }
    (s.opState = .quiescing ∧ s.entriesOf (fun r => decide (r.limit.toNat ≤ (10#16 - r.issueTick).toNat)) ≠ []) ∧
      ends (exec .tickEvent s) (fun t =>
        decide (t.opState = .quiesced ∧ t.entriesOf (fun _ => true) = [] ∧ getAt t.lists 0 = [] ∧
          t.trafficQueue = [{ dest := 0, tag := 10#8, body := .fail .timeout }])) = true := by
  decide +kernel

/-- Not due at count 9, due at count 10: an absorbed entry, an unordered one with room, without room, and behind a
backlog answer. -/
theorem test_witness_ExpiryAnswersTimeout :
    (∀ r ∈ [entry .cwrite 0 true none, entry .read 1 false none],
      ∀ s ∈ [withTraffic 31 start, withTraffic 32 start,
          { start with backlog := [{ source := 0, tag := 1#8, status := .timeout }] }],
        getAt (withTag 63 (.active r) (atCount 10#16 s)).tags 63 = .active r ∧
          r.limit.toNat ≤ ((atCount 10#16 s).tick.count - r.issueTick).toNat ∧
          ((atCount 9#16 s).tick.count - r.issueTick).toNat < r.limit.toNat) ∧
    ((withTraffic 31 start).backlog = [] ∧ (withTraffic 31 start).trafficQueue.length < 32) ∧
    32 ≤ (withTraffic 32 start).trafficQueue.length ∧
    ((entry .cwrite 0 true none).absorbed = true ∧ (entry .read 1 false none).absorbed = false ∧
      (entry .read 1 false none).link = none) := by
  decide +kernel

theorem not_active_of_free {s : State} {g : PoolTag} (h : getAt s.tags g = .free) :
    ∀ r, getAt s.tags g ≠ .active r := by
  intro r hr; rw [h] at hr; cases hr

/-- The delivering head of source 0's list, due, with room; and the same with a full Traffic Queue. -/
theorem test_witness_ExpiryAnswersTimeout_ordered :
    (OrderSound (atCount 10#16 ordered1) ∧
      getAt (atCount 10#16 ordered1).tags 0 = .active (entry .read 2 false (some 0)) ∧
      getAt (atCount 10#16 ordered1).slots 0 = some (element .read 2 []) ∧
      getAt (atCount 10#16 ordered1).lists (entry .read 2 false (some 0)).source = [0] ∧
      (element .read 2 []).segs = [] ∧ (atCount 10#16 ordered1).rqLink = .up ∧
      (atCount 10#16 ordered1).trafficQueue.length < 32) ∧
    32 ≤ (withTraffic 32 ordered1).trafficQueue.length ∧
    (∀ r, getAt start.tags 0 ≠ .active r) :=
  ⟨⟨{ ordered1_sound with }, by decide +kernel, by decide +kernel, by decide +kernel, rfl, rfl,
    by decide +kernel⟩, by decide +kernel, not_active_of_free (by decide +kernel)⟩

/-- Source 0's head is a draining head: one segment is stored, and its entry is ACTIVE with a word to come. -/
def draining1 : State :=
  { withTag 0 (.active { entry .read 2 false (some 0) with received := 1 }) ordered1 with
    slots := putAt ordered1.slots 0 (some (element .read 2 [{ words := [7#32], last := false, poison := false }])) }

/-- A draining head, due, with room: its FAIL waits for its drain step. The head due with the RQ link DOWN: so does
its FAIL. -/
theorem test_witness_ExpiryAnswersTimeout_waiting :
    (getAt (atCount 10#16 draining1).tags 0 = .active { entry .read 2 false (some 0) with received := 1 } ∧
      getAt draining1.slots 0 = some (element .read 2 [{ words := [7#32], last := false, poison := false }]) ∧
      getAt draining1.lists 0 = [0] ∧ draining1.rqLink = .up ∧ draining1.trafficQueue.length < 32 ∧
      ends (exec (.expiry 0) (atCount 10#16 draining1)) (fun t =>
        decide (t.trafficQueue = [] ∧ getAt t.lists 0 = [0])) = true) ∧
    (let s := { atCount 10#16 ordered1 with rqLink := .down }
    s.rqLink = .down ∧ getAt s.slots 0 = some (element .read 2 []) ∧
      ends (exec (.expiry 0) s) (fun t => decide (t.trafficQueue = [] ∧ getAt t.lists 0 = [0])) = true) := by
  decide +kernel

theorem test_witness_LapseFreesTheTag :
    (getAt (withTag 63 (.quarantined abandoned) start).tags 63 = .quarantined abandoned) ∧
    (((atCount 19#16 start).tick.count - abandoned.startTick).toNat < abandoned.limit.toNat ∧
      abandoned.limit.toNat ≤ ((atCount 20#16 start).tick.count - abandoned.startTick).toNat) ∧
    (∀ q, getAt start.tags 0 ≠ .quarantined q) := by
  refine ⟨by decide +kernel, by decide +kernel, fun q h => ?_⟩
  have h0 : getAt start.tags 0 = .free := by decide +kernel
  rw [h0] at h; cases h

/-! ### Dispatch -/

/-- A NEW head with its mark clear, in RUN. -/
def newHead (r : Request) (w : Window) : State := withWindow w (withHead r .new start)

/-- The source with other settings. -/
def withSource (e : SourceEntry) (s : State) : State := { s with sources := putAt s.sources 0 e }

/-- Every clause of the two statements on classification starts here. -/
theorem test_newHead (r : Request) (w : Window) :
    (newHead r w).forwardQueue = [{ req := r, mark := false }] ∧ (newHead r w).headPhase = .new ∧
      (newHead r w).opState = .run ∧ (newHead r w).rsLink = .up :=
  ⟨rfl, rfl, rfl, rfl⟩

/-- An invalid source, a quota of 0, and an address one word below the only window. -/
theorem test_witness_ClassificationRefusals_sources :
    (let s := withSource SourceEntry.unset (newHead (request .read 1 0x1000#40) window0)
    s.headPhase = .new ∧ s.opState = .run ∧ (getAt s.sources 0).valid = false) ∧
    (let s := withSource { SourceEntry.bootstrap with quota := 0#5 }
      (newHead (request .read 1 0x1000#40) window0)
    s.headPhase = .new ∧ s.opState = .run ∧ (getAt s.sources 0).quota = 0#5) ∧
    (let s := newHead (request .read 1 0x0FFC#40) window0
    s.headPhase = .new ∧ s.opState = .run ∧ (getAt s.sources 0).valid = true ∧
      (getAt s.sources 0).quota ≠ 0#5 ∧ ∀ i, ¬((s.window i).valid = true ∧ Covers (s.window i) 0x0FFC)) := by
  unfold Covers
  decide +kernel

/-- Two words from the last one of the window, and two that reach the aperture. -/
theorem test_witness_ClassificationRefusals_span :
    (let s := newHead (request .read 2 0x1FFC#40) window0
    s.opState = .run ∧ (getAt s.sources 0).valid = true ∧ (getAt s.sources 0).quota ≠ 0#5 ∧
      Chosen s 0x1FFC 0 ∧ ¬Covers (s.window 0) (0x1FFC + 4 * 2 - 1)) ∧
    (let s := newHead (request .read 2 0xFFFFFEFFFC#40) { window0 with base := 0#28, sizeExp := 40#6 }
    s.opState = .run ∧ (getAt s.sources 0).valid = true ∧ (getAt s.sources 0).quota ≠ 0#5 ∧
      Chosen s 0xFFFFFEFFFC 0 ∧ 0xFFFFFF0000 ≤ 0xFFFFFEFFFC + 4 * 2 - 1) := by
  unfold Chosen Covers
  decide +kernel

/-- A group outside the set, an access that admits no write, one that admits no read, and a count at the quota. -/
theorem test_witness_ClassificationRefusals_stages :
    (∀ p ∈ [(request .read 1 0x1FFC#40, { window0 with groups := 14#4 }),
        (request .write 1 0x1FFC#40, { window0 with access := .readOnly }),
        (request .read 1 0x1FFC#40, { window0 with access := .writeOnly }),
        (request .read 1 0x1FFC#40, window0)],
      let s := withSource { SourceEntry.bootstrap with count := 4 } (newHead p.1 p.2)
      s.opState = .run ∧ (getAt s.sources 0).valid = true ∧ (getAt s.sources 0).quota ≠ 0#5 ∧
        Chosen s 0x1FFC 0 ∧ Covers (s.window 0) (0x1FFC + 4 * 1 - 1) ∧ s.window 0 = p.2 ∧
        (getAt s.sources 0).quota.toNat ≤ (getAt s.sources 0).count ∧ (getAt s.sources 0).group = 0) ∧
    ((14#4).getLsbD 0 = false ∧ (15#4).getLsbD 0 = true) := by
  unfold Chosen Covers
  decide +kernel

/-- A count one below the quota and 64 words that end with the window; and the same with the RS port DOWN. -/
theorem test_witness_ClassificationPasses :
    (let s := withSource { SourceEntry.bootstrap with count := 3 } (newHead (request .read 64 0x1F00#40) window0)
    s.headPhase = .new ∧ s.opState = .run ∧ (getAt s.sources 0).valid = true ∧ (getAt s.sources 0).quota ≠ 0#5 ∧
      Chosen s 0x1F00 0 ∧ Covers (s.window 0) (0x1F00 + 4 * 64 - 1) ∧ 0x1F00 + 4 * 64 - 1 < 0xFFFFFF0000 ∧
      (s.window 0).groups.getLsbD (getAt s.sources 0).group.val = true ∧
      (s.window 0).access = .readWrite ∧
      (getAt s.sources 0).count < (getAt s.sources 0).quota.toNat ∧ s.rsLink = .up) ∧
    ({ newHead (request .write 1 0x1000#40) window0 with rsLink := .down } : State).rsLink = .down := by
  unfold Chosen Covers
  decide +kernel

theorem test_witness_HeadsNotClassified :
    (start.forwardQueue = []) ∧
    (withHead (request .read 1 0x1000#40) (.answering .retry) start).headPhase = .answering .retry ∧
    ((waiting 2).headPhase = .new ∧ ∀ st, (waiting 2).headPhase ≠ .answering st) ∧
    ({ waiting 1 with opState := .quiesced } : State).opState ≠ .run ∧
    (classifiedRead.opState = .run ∧ classifiedRead.rsLink = .up) ∧
    (HeadSound { classifiedRead with rsLink := .down } ∧
      ({ classifiedRead with rsLink := .down } : State).opState = .run) :=
  ⟨rfl, rfl, ⟨rfl, fun _ h => nomatch h⟩, by decide, ⟨rfl, rfl⟩, { classifiedRead_sound with }, rfl⟩

/-- The last tag alone FREE, and one credit. -/
def lastTag : State :=
  { classifiedRead with
    rsCredits := 1
    tags := putAt (fillTable 64 (.active (entry .read 1 false none))) 63 .free }

theorem test_witness_IssueUnordered :
    (lastTag.forwardQueue = [{ req := request .read 1 0x1000#40, mark := false }] ∧
      lastTag.headPhase = .classified (plan .nonPosted false 0)) ∧
    (lastTag.rsLink = .up ∧ 0 < lastTag.rsCredits ∧ lastTag.backlog = [] ∧ lastTag.opState = .run ∧
      (request .read 1 0x1000#40).length ≤ 64) ∧
    ((plan .nonPosted false 0).cls ≠ .plainPosted ∧ (plan .absorbed false 0).cls ≠ .plainPosted) ∧
    getAt lastTag.tags 63 = .free ∧ ∀ h, h < 63 → getAt lastTag.tags h ≠ .free := by
  decide +kernel

/-- The last slot alone free, and 448 words reserved: 64 more just fit, 65 do not. -/
def lastSlot : State :=
  { withHead (request .read 64 0x1000#40) (.classified (plan .nonPosted true 64)) start with
    slots := putAt (putAt (fillTable 64 (some (element .read 0 []))) 0 (some (element .read 448 []))) 63 none }

theorem test_witness_IssueOrdered :
    (lastSlot.forwardQueue = [{ req := request .read 64 0x1000#40, mark := false }] ∧
      lastSlot.headPhase = .classified (plan .nonPosted true 64)) ∧
    (lastSlot.rsLink = .up ∧ 0 < lastSlot.rsCredits ∧ lastSlot.backlog = [] ∧ lastSlot.opState = .run) ∧
    (getAt lastSlot.tags 0 = .free ∧ getAt lastSlot.slots 63 = none ∧
      ∀ k, k < 63 → getAt lastSlot.slots k ≠ none) ∧
    (lastSlot.reservedWords + (plan .nonPosted true 64).reservation ≤ 512 ∧
      512 < lastSlot.reservedWords + (plan .nonPosted true 65).reservation) := by
  decide +kernel

theorem test_witness_IssuePlainPosted :
    classifiedWrite.forwardQueue = [{ req := request .write 1 0x1000#40, mark := false }] ∧
    classifiedWrite.headPhase = .classified (plan .plainPosted false 0) ∧
    (classifiedWrite.opState = .run ∧ classifiedWrite.rsLink = .up ∧ 0 < classifiedWrite.rsCredits) ∧
    (request .write 64 0x1000#40).length ≤ 64 := by
  decide +kernel

theorem test_witness_IssueWaitsForEveryResource :
    (∀ g, getAt (fillTable 64 (TagState.active (entry .read 1 false none))) g ≠ .free) ∧
    (∀ l, getAt (fillTable 64 (some (element .read 1 []))) l ≠ none) ∧
    ({ classifiedRead with rsCredits := 0 } : State).rsCredits = 0 ∧
    ({ classifiedRead with opState := .quiesced } : State).opState ≠ .run ∧
    (∀ c, (waiting 1).headPhase ≠ .classified c) :=
  ⟨by simp, by simp, rfl, by decide, fun _ h => nomatch h⟩

/-- A head that waited for a credit and gets one. -/
theorem test_witness_ReleasedResourceIssuesHead :
    (let s := { classifiedRead with rsCredits := 0 }
    s.forwardQueue ≠ [] ∧ s.headPhase = .classified (plan .nonPosted false 0) ∧
      exec .issue s = .next s ∧ exec .issuePlainPosted s = .next s) ∧
    classifiedRead.headPhase = .classified (plan .nonPosted false 0) ∧
    (exec .issue classifiedRead ≠ .next classifiedRead) ∧ (∀ c, start.headPhase ≠ .classified c) := by
  refine ⟨⟨by decide, rfl, rfl, rfl⟩, rfl, fun h => ?_, fun _ h => nomatch h⟩
  have : ends (exec .issue classifiedRead) (fun t => decide (t.forwardQueue = [])) = true := by decide +kernel
  rw [h] at this
  exact absurd this (by decide +kernel)

theorem test_witness_WaitingAnswersEnterTheTrafficQueue :
    (withTraffic 31 start).trafficQueue.length < 32 ∧ 32 ≤ (withTraffic 32 start).trafficQueue.length ∧
    (let s := withHead (request .read 1 0x1000#40) (.answering .retry) (withTraffic 31 start)
    s.headPhase = .answering .retry ∧ s.trafficQueue.length < 32) ∧
    ({ withTraffic 31 start with backlog := [{ source := 0, tag := 1#8, status := .timeout }] } : State).backlog =
      [{ source := 0, tag := 1#8, status := .timeout }] ∧
    ({ withTraffic 31 start with malformedList := [{ dest := 0, tag := 1#8, pool := .management }] }
      : State).malformedList = [{ dest := 0, tag := 1#8, pool := .management }] := by
  decide +kernel

/-! ### The Response Matcher, draining and transmission -/

/-- Tag 64, the first that names no tag, and tag 63 FREE. -/
theorem test_witness_UnexpectedResponse :
    (64 ≤ (packet .done 64#8 0#4 [] false).tag.toNat) ∧
    ((63 : PoolTag).val = (packet .done 63#8 0#4 [] false).tag.toNat ∧ getAt start.tags 63 = .free) ∧
    (withIngress (packet .done 63#8 0#4 [] false) start).ingress = [packet .done 63#8 0#4 [] false] := by
  decide +kernel

theorem test_witness_LateResponse :
    (let s := withIngress (packet .data 63#8 0#4 [7#32] false) (withTag 63 (.quarantined abandoned) start)
    s.ingress = [packet .data 63#8 0#4 [7#32] false] ∧ getAt s.tags 63 = .quarantined abandoned) ∧
    ((packet .data 63#8 0#4 [7#32] false).kind = .data ∧ (packet .data 63#8 0#4 [7#32] false).last = false) ∧
    ((packet .data 63#8 0#4 [7#32] true).last = true ∧ (packet .done 63#8 0#4 [] false).kind ≠ .data) := by
  decide +kernel

/-- Each way to be inconsistent, and the boundaries: the words that just complete a READ are consistent. -/
theorem test_witness_Inconsistent :
    Inconsistent (packet .data 0#8 0#4 [7#32] true) (entry .cwrite 0 false none) ∧
    Inconsistent (packet .data 0#8 0#4 [7#32, 7#32] true) (entry .read 1 false none) ∧
    Inconsistent (packet .data 0#8 0#4 [7#32] true) (entry .read 2 false none) ∧
    Inconsistent (packet .done 0#8 0#4 [] false) (entry .read 1 false none) ∧
    Inconsistent (packet .fail 0#8 2#4 [] false) (entry .read 1 false none) ∧
    ¬Inconsistent (packet .data 0#8 0#4 [7#32, 7#32] true) (entry .read 2 false none) ∧
    ¬Inconsistent (packet .data 0#8 0#4 [7#32] false) (entry .read 2 false none) ∧
    ¬Inconsistent (packet .done 0#8 0#4 [] false) (entry .cwrite 0 false none) ∧
    ¬Inconsistent (packet .fail 0#8 5#4 [] false) (entry .read 2 false none) ∧
    ¬Inconsistent (packet .fail 0#8 1#4 [] false) (entry .cwrite 0 true none) := by
  refine ⟨?_, ?_, ?_, ?_, ?_, ?_, ?_, ?_, ?_, ?_⟩ <;> (unfold Inconsistent; decide +kernel)

/-- A mismatch under tag 0 for an absorbed entry, and for an unordered one with room, without it, and behind a
backlog answer. -/
theorem test_witness_MismatchTerminatesTheEntry :
    (∀ r ∈ [entry .cwrite 0 true none, entry .cwrite 0 false none],
      ∀ s ∈ [withTraffic 31 start, withTraffic 32 start,
          { start with backlog := [{ source := 0, tag := 1#8, status := .timeout }] }],
        (withIngress (packet .fail 0#8 2#4 [] false) (withTag 0 (.active r) s)).ingress =
            [packet .fail 0#8 2#4 [] false] ∧
          Inconsistent (packet .fail 0#8 2#4 [] false) r ∧
          getAt (withIngress (packet .fail 0#8 2#4 [] false) (withTag 0 (.active r) s)).tags 0 = .active r) ∧
    (0 : PoolTag).val = (packet .fail 0#8 2#4 [] false).tag.toNat ∧
    ((entry .cwrite 0 true none).absorbed = true ∧ (entry .cwrite 0 false none).absorbed = false) ∧
    ((withTraffic 31 start).backlog = [] ∧ (withTraffic 31 start).trafficQueue.length < 32) := by
  unfold Inconsistent
  decide +kernel

/-- The delivering head with room, and with a full Traffic Queue. -/
theorem test_witness_MismatchTerminatesTheEntry_ordered :
    (let s := withIngress (packet .fail 0#8 2#4 [] false) (withTraffic 31 ordered1)
    OrderSound s ∧ s.ingress = [packet .fail 0#8 2#4 [] false] ∧
      Inconsistent (packet .fail 0#8 2#4 [] false) (entry .read 2 false (some 0)) ∧
      getAt s.tags 0 = .active (entry .read 2 false (some 0)) ∧ getAt s.slots 0 = some (element .read 2 []) ∧ getAt s.lists 0 = [0] ∧ s.rqLink = .up ∧
      s.trafficQueue.length < 32) ∧
    32 ≤ (withTraffic 32 ordered1).trafficQueue.length :=
  ⟨⟨{ ordered1_sound with }, rfl, by unfold Inconsistent; decide +kernel, by decide +kernel⟩, by decide +kernel⟩

/-- A mismatch for a draining head with room, and for a head with the RQ link DOWN. -/
theorem test_witness_MismatchTerminatesTheEntry_waiting :
    ∀ s ∈ [draining1, { ordered1 with rqLink := .down }],
      let u := withIngress (packet .fail 0#8 2#4 [] false) s
      (u.trafficQueue.length < 32 ∧ (0 : PoolTag).val = (packet .fail 0#8 2#4 [] false).tag.toNat) ∧
        (∀ n, Inconsistent (packet .fail 0#8 2#4 [] false) { entry .read 2 false (some 0) with received := n }) ∧
        ends (exec .matcherTake u) (fun t => decide (t.trafficQueue = [] ∧ getAt t.lists 0 = [0])) = true := by
  intro s hs
  refine ⟨?_, fun n => .inr (.inr (.inr (.inr ⟨rfl, by decide, by decide⟩))), ?_⟩ <;> revert s hs <;>
    decide +kernel

/-- Source 0's list holds slot 1 before slot 0: the entry of slot 0 is not the delivering head. -/
def ordered2 : State :=
  { ordered1 with
    lists := putAt ordered1.lists 0 [1, 0]
    slots := putAt ordered1.slots 1 (some { element .read 2 [] with link := none, state := .failed .timeout }) }

theorem ordered2_waits (kind : EntryKind) (n : Nat) : ¬Forwarded ordered2 (entry kind n false (some 0)) := by
  rintro (h | ⟨l, e, rest, hl, hlist, -⟩)
  · cases h
  · cases hl
    have h2 : getAt ordered2.lists 0 = [1, 0] := by decide +kernel
    have h0 : (entry kind n false (some 0)).source = 0 := rfl
    rw [h0, h2] at hlist
    injection hlist with h
    exact absurd h (by decide)

/-- The last segment of an unordered READ with room, and one that is not the last with a full queue; and the
delivering head's. -/
theorem test_witness_DataIsForwarded :
    (let p := packet .data 0#8 0#4 [7#32, 7#32] true
    let r := entry .read 2 false none
    let s := withIngress p (withTag 0 (.active r) (withTraffic 31 start))
    (s.ingress = [p] ∧ (0 : PoolTag).val = p.tag.toNat ∧ getAt s.tags 0 = .active r ∧ p.kind = .data ∧
      r.absorbed = false ∧ s.trafficQueue.length < 32 ∧ p.last = true) ∧ ¬Inconsistent p r ∧ Forwarded s r) ∧
    (let p := packet .data 0#8 0#4 [7#32] false
    let r := entry .read 2 false (some 0)
    let s := withIngress p (withTraffic 32 ordered1)
    (s.ingress = [p] ∧ (0 : PoolTag).val = p.tag.toNat ∧ getAt s.tags 0 = .active r ∧ p.kind = .data ∧
      r.absorbed = false ∧ 32 ≤ s.trafficQueue.length ∧ p.last = false) ∧ ¬Inconsistent p r ∧ Forwarded s r) := by
  refine ⟨⟨by decide +kernel, by unfold Inconsistent; decide +kernel, .inl rfl⟩, by decide +kernel,
    by unfold Inconsistent; decide +kernel, .inr ⟨0, element .read 2 [], [], rfl, ?_, ?_, rfl, rfl⟩⟩ <;>
  decide +kernel

theorem test_witness_DataIsStored :
    let p := packet .data 0#8 0#4 [7#32, 7#32] true
    let r := entry .read 2 false (some 0)
    let s := withIngress p ordered2
    (s.ingress = [p] ∧ (0 : PoolTag).val = p.tag.toNat ∧ getAt s.tags 0 = .active r ∧ p.kind = .data ∧
      r.absorbed = false ∧ r.link = some 0 ∧ getAt s.slots 0 = some (element .read 2 [])) ∧
    ¬Inconsistent p r ∧ ¬Forwarded s r := by
  refine ⟨by decide +kernel, by unfold Inconsistent; decide +kernel, ?_⟩
  exact ordered2_waits .read 2

/-- An unordered CWRITE answered DONE and both permitted FAILs, and an ordered one behind its head. -/
theorem test_witness_DoneAndFailCompleteTheEntry :
    (∀ p ∈ [packet .done 0#8 0#4 [] false, packet .fail 0#8 1#4 [] false, packet .fail 0#8 5#4 [] false],
      let s := withIngress p (withTag 0 (.active (entry .cwrite 0 false none)) (withTraffic 31 start))
      let u := withIngress p (withTag 0 (.active (entry .cwrite 0 false (some 0))) ordered2)
      (s.ingress = [p] ∧ (0 : PoolTag).val = p.tag.toNat ∧ ¬Inconsistent p (entry .cwrite 0 false none) ∧
        getAt s.tags 0 = .active (entry .cwrite 0 false none) ∧ s.trafficQueue.length < 32) ∧
      (u.ingress = [p] ∧ ¬Inconsistent p (entry .cwrite 0 false (some 0)) ∧ getAt u.tags 0 = .active (entry .cwrite 0 false (some 0)) ∧
        getAt u.slots 0 = some (element .read 2 []))) ∧
    ((packet .fail 0#8 1#4 [] false).status = 1#4 ∧ (packet .fail 0#8 5#4 [] false).status = 5#4) ∧
    (∀ s, Forwarded s (entry .cwrite 0 false none)) ∧ ¬Forwarded ordered2 (entry .cwrite 0 false (some 0)) := by
  refine ⟨?_, by decide, fun s => .inl rfl, ordered2_waits .cwrite 0⟩
  unfold Inconsistent
  decide +kernel

theorem test_witness_AbsorbedEntryCompletes :
    (∀ p ∈ [packet .done 0#8 0#4 [] false, packet .fail 0#8 1#4 [] false],
      let s := withIngress p (withTag 0 (.active (entry .cwrite 0 true none)) start)
      s.ingress = [p] ∧ (0 : PoolTag).val = p.tag.toNat ∧ ¬Inconsistent p (entry .cwrite 0 true none) ∧
        getAt s.tags 0 = .active (entry .cwrite 0 true none)) ∧
    (entry .cwrite 0 true none).absorbed = true := by
  unfold Inconsistent
  decide +kernel

/-- Source 31's head is element `e`. -/
def headElement (e : Element) (s : State) : State :=
  { s with lists := putAt s.lists 31 [63], slots := putAt s.slots 63 (some e) }

def segment1 : Segment := { words := [7#32], last := true, poison := false }

/-- A delivering head; one with two segments; a COMPLETE READ with one; a COMPLETE CWRITE; a FAILED one. -/
theorem test_witness_DrainStepSendsOnePacket :
    (∀ e ∈ [element .read 2 [], element .read 2 [segment1, segment1],
        { element .read 1 [segment1] with state := .complete, link := none },
        { element .cwrite 0 [] with state := .complete, storedDone := true, link := none },
        { element .read 0 [] with state := .failed .timeout, link := none }],
      getAt (headElement e (withTraffic 31 start)).lists 31 = [63] ∧
        getAt (headElement e (withTraffic 31 start)).slots 63 = some e ∧
        (headElement e (withTraffic 31 start)).rqLink = .up ∧
        (headElement e (withTraffic 31 start)).trafficQueue.length < 32) ∧
    getAt start.lists 31 = [] := by
  decide +kernel

def alert0 : Alert := { dest := 0, cls := .fatal, kind := .linkDownRs, records := 8, overflowed := false }

/-- A filled slot of each class, a filled Management Response Slot, and a Traffic Queue of 31. -/
theorem test_witness_TransmitStepChoosesOnePacket :
    (start.rqLink = .up ∧ 0 < start.rqCredits ∧ State.reset.rqLink = .down ∧ State.reset.rqCredits = 0) ∧
    ({ start.alert.fatal with slot := some alert0 }.slot = some alert0) ∧
    (start.alert.fatal.slot = none ∧ start.alert.nonfatal.slot = none ∧ start.alert.advisory.slot = none) ∧
    (({ start with mgmtSlots := [answer0, answer0] } : State).mgmtSlots = answer0 :: [answer0]) ∧
    (start.mgmtSlots = [] ∧ start.trafficQueue = [] ∧
      (withTraffic 31 start).trafficQueue = answer0 :: List.replicate 30 answer0 ∧
      (List.replicate 30 answer0).length < 31) := by
  decide +kernel

/-- A full Traffic Queue with nothing waiting; with a backlog answer, found from position 0 and, last round the
ring, from position 3; and a step that makes one producer ready. -/
theorem test_witness_FreedPlaceGoesRoundTheRing :
    ((withTraffic 32 start).trafficQueue = answer0 :: List.replicate 31 answer0 ∧
      (List.replicate 31 answer0).length = 31 ∧ (withTraffic 32 start).rqLink = .up ∧
      0 < (withTraffic 32 start).rqCredits) ∧
    (let u := responseSent (packResponse answer0) (withTraffic 31 start)
    ∀ k, u.ready (Producer.at k) = false) ∧
    (let u := responseSent (packResponse answer0)
      { withTraffic 31 start with backlog := [{ source := 0, tag := 1#8, status := .timeout }] }
    (∀ k, k < 2 → u.ready (Producer.at (u.roomPointer + k)) = false) ∧
      u.ready (Producer.at (u.roomPointer + 2)) = true) ∧
    (let u := responseSent (packResponse answer0)
      { withTraffic 31 start with
        backlog := [{ source := 0, tag := 1#8, status := .timeout }], roomPointer := 3 }
    (∀ k, k < 35 → u.ready (Producer.at (u.roomPointer + k)) = false) ∧
      u.ready (Producer.at (u.roomPointer + 35)) = true) ∧
    (let u := headElement { element .read 0 [] with state := .failed .timeout, link := none } start
    (∀ j, madeReady start u j = true ↔ j = 35) ∧ u.trafficQueue.length < 32) ∧
    ((∀ k, madeReady start start k = false) ∧ 32 ≤ (withTraffic 32 start).trafficQueue.length) := by
  decide +kernel

/-- A classified head without a credit, a full Traffic Queue, the pointer at 3, and `b` in the Answer Backlog. -/
def ringFull (b : List BacklogAnswer) : State :=
  { withTraffic 32 { classifiedRead with rsCredits := 0 } with roomPointer := 3, backlog := b }

/-- The same after one response has left. -/
def ringFreed (b : List BacklogAnswer) : State :=
  responseSent (packResponse answer0) { ringFull b with trafficQueue := List.replicate 31 answer0 }

theorem waits_ringFreed (b : List BacklogAnswer) (k : Fin 36) : Waits (ringFreed b) k ↔ k = 2 ∧ b ≠ [] := by
  have hm : (ringFreed b).malformedList = [] := rfl
  have hp : ∀ st, (ringFreed b).headPhase ≠ .answering st := fun _ h => nomatch h
  have hi : (ringFreed b).ingress = [] := rfl
  have hb : (ringFreed b).backlog = b := rfl
  have hl : ∀ n, getAt (ringFreed b).lists n = [] := getAt_fillTable 32 []
  simp [Waits, hm, hp, hi, hb, hl]

/-- Nothing waits, or the backlog alone, found last round the ring from position 3. -/
theorem test_witness_FreedPlaceGoesRoundTheRing_waits :
    (∀ b, (ringFull b).headClassified = true ∧ (ringFull b).rqLink = .up ∧ 0 < (ringFull b).rqCredits ∧
      (ringFull b).trafficQueue = answer0 :: List.replicate 31 answer0 ∧ (ringFull b).roomPointer = 3) ∧
    (∀ k, ¬Waits (ringFreed []) k) ∧
    (let u := ringFreed [{ source := 0, tag := 1#8, status := .timeout }]
    (∀ k : Fin 36, k < 35 → ¬Waits u (3 + k)) ∧ Waits u (3 + 35) ∧ (3 + 35 : Fin 36) ≠ 3) := by
  refine ⟨fun b => ⟨rfl, rfl, Nat.zero_lt_succ _, rfl, rfl⟩, ?_⟩
  simp only [waits_ringFreed]
  decide +kernel

/-- A step that makes three producers ready: each is given one place, in the order of the ring from the pointer, as
long as there is room. -/
theorem test_several_made_ready :
    let failed (l : SlotId) (n : SourceId) (s : State) : State :=
      { s with
        lists := putAt s.lists n [l]
        slots := putAt s.slots l
          (some { element .read 0 [] with state := .failed .timeout, link := none, tag := BitVec.ofNat 8 n.val }) }
    let u := failed 1 31 (failed 0 0
      { start with backlog := [{ source := 5, tag := 1#8, status := .timeout }], roomPointer := 10 })
    (∀ k, madeReady start u k = true ↔ k = 2 ∨ k = 4 ∨ k = 35) ∧
      (distribute start u).trafficQueue =
        [{ dest := 31, tag := 31#8, body := .fail .timeout }, { dest := 5, tag := 1#8, body := .fail .timeout },
          { dest := 0, tag := 0#8, body := .fail .timeout }] ∧
      (distribute start u).roomPointer = 5 ∧
      (distribute start (withTraffic 30 u)).trafficQueue.drop 30 =
        [{ dest := 31, tag := 31#8, body := .fail .timeout }, { dest := 5, tag := 1#8, body := .fail .timeout }] := by
  decide +kernel

theorem test_witness_HaltTeardown :
    start.haltRequested = false ∧
    (({ start with haltRequested := true, opState := .halted } : State).opState = .halted) ∧
    (({ start with haltRequested := true } : State).haltRequested = true ∧ start.opState ≠ .halted) := by
  decide +kernel

/-! ### The Management Agent -/

/-- A CWRITE of one word that the bootstrap source sends is taken with its checks passed. -/
theorem asked_taken {s : State} {off : Nat} {v : Word} (hs : s.mgmtSlots.length < 2)
    (h0 : getAt s.sources 0 = SourceEntry.bootstrap) (ho : off < 0x1000) (ha : (mgmtWordAt off).isSome = true) :
    WriteTaken (asked (cwriteAt off v) s) (cwriteAt off v) [] off v where
  oldest := rfl
  slot := .inr hs
  valid := by rw [show getAt (asked (cwriteAt off v) s).sources (cwriteAt off v).source = _ from h0]; rfl
  permission := by rw [show getAt (asked (cwriteAt off v) s).sources (cwriteAt off v).source = _ from h0]; rfl
  one := rfl
  offset := by simp only [cwriteAt, BitVec.toNat_ofNat]; omega
  assigned := ha
  write := by simp [cwriteAt]
  clean := rfl
  payload := rfl

theorem start_source : getAt start.sources 0 = SourceEntry.bootstrap := by decide +kernel

theorem start_taken {off : Nat} {v : Word} (ho : off < 0x1000) (ha : (mgmtWordAt off).isSome = true) :
    WriteTaken (asked (cwriteAt off v) start) (cwriteAt off v) [] off v :=
  asked_taken Nat.zero_lt_two start_source ho ha

/-- A CWRITE of the command word and of each word software writes. -/
theorem test_witness_WriteTaken :
    (∀ v, WriteTaken (asked (cwriteAt 4 v) start) (cwriteAt 4 v) [] 4 v) ∧
    (∀ off ∈ [0x0C, 0x18, 0x1C, 0x20, 0x34, 0x38, 0x3C, 0x40, 0x58], ∀ v,
      WriteTaken (asked (cwriteAt off v) start) (cwriteAt off v) [] off v) ∧
    (∀ c : Fin 4, ∀ v, WriteTaken (asked (cwriteAt (0x60 + 4 * c.val) v) start)
      (cwriteAt (0x60 + 4 * c.val) v) [] (0x60 + 4 * c.val) v) := by
  refine ⟨fun v => start_taken (by decide) (by decide +kernel), fun off h v => ?_,
    fun c v => start_taken (by omega) (by revert c; decide +kernel)⟩
  have hr : ∀ off ∈ [0x0C, 0x18, 0x1C, 0x20, 0x34, 0x38, 0x3C, 0x40, 0x58],
      off < 0x1000 ∧ (mgmtWordAt off).isSome = true := by decide +kernel
  exact start_taken (hr off h).1 (hr off h).2

/-- The command codes 0 to 11 at the ends of the ranges of the statements, with arguments at theirs. -/
theorem test_witness_commands :
    ((0x01000000#32).toNat / 2 ^ 24 = 1 ∧ (0x02000000#32).toNat / 2 ^ 24 = 2 ∧
      (0x03000000#32).toNat / 2 ^ 24 = 3 ∧ (0x04000000#32).toNat / 2 ^ 24 = 4) ∧
    ((0x051F0000#32).toNat / 2 ^ 24 = 5 ∧ (31 : SourceId).val = (0x051F0000#32).toNat / 2 ^ 16 % 256 ∧
      32 ≤ (0x05200000#32).toNat / 2 ^ 16 % 256 ∧ (0x06000000#32).toNat / 2 ^ 24 = 6) ∧
    ((0x07000000#32).toNat / 2 ^ 16 % 256 = 0 ∧ (0x07010000#32).toNat / 2 ^ 16 % 256 = 1 ∧
      (0x07030000#32).toNat / 2 ^ 16 % 256 = 3 ∧ 3 < (0x07040000#32).toNat / 2 ^ 16 % 256) ∧
    ((0x08000000#32).toNat / 2 ^ 24 = 8 ∧ (0x09000000#32).toNat / 2 ^ 24 = 9) ∧
    ((0x0A000000#32).toNat / 2 ^ 24 = 10 ∧ (0x0A010000#32).toNat / 2 ^ 16 % 256 = (0 : Fin 20).val + 1 ∧
      (0x0A140000#32).toNat / 2 ^ 16 % 256 = (19 : Fin 20).val + 1 ∧
      20 < (0x0A150000#32).toNat / 2 ^ 16 % 256) ∧
    ((0x00000000#32).toNat / 2 ^ 24 = 0 ∧ 10 < (0x0B000000#32).toNat / 2 ^ 24) := by
  decide +kernel

theorem fatal_holds :
    ((start.err.setStatus .creditOverrunRq).item .creditOverrunRq).status = true ∧
      ((start.err.setStatus .creditOverrunRq).item .creditOverrunRq).mask = false ∧
      ((start.err.setStatus .creditOverrunRq).item .creditOverrunRq).severity = .fatal := by
  decide +kernel

/-- A request taken in each operating state; with the fatal condition; and with a CLASSIFIED head while the RS port
is DOWN. -/
theorem test_witness_QuiesceAndResume (v : Word) :
    (∀ o, WriteTaken (asked (cwriteAt 4 v) { start with opState := o }) (cwriteAt 4 v) [] 4 v) ∧
    (let s := asked (cwriteAt 4 v) { start with opState := .halted, err := start.err.setStatus .creditOverrunRq }
    WriteTaken s (cwriteAt 4 v) [] 4 v ∧ s.opState = .halted ∧
      (s.err.item .creditOverrunRq).status = true ∧ (s.err.item .creditOverrunRq).mask = false ∧
      (s.err.item .creditOverrunRq).severity = .fatal) ∧
    (∀ k, (start.err.item k).status = false) ∧
    (let s := asked (cwriteAt 4 v) { classifiedRead with opState := .quiescing, rsLink := .down }
    WriteTaken s (cwriteAt 4 v) [] 4 v ∧ HeadSound s ∧ s.opState = .quiescing ∧ s.rsLink = .down ∧
      s.headPhase = .classified (plan .nonPosted false 0)) :=
  ⟨fun _ => asked_taken Nat.zero_lt_two start_source (by decide) (by decide +kernel),
    ⟨asked_taken Nat.zero_lt_two start_source (by decide) (by decide +kernel), rfl, fatal_holds.1,
      fatal_holds.2.1, fatal_holds.2.2⟩,
    by intro k; cases k <;> decide +kernel,
    asked_taken Nat.zero_lt_two start_source (by decide) (by decide +kernel),
      { classifiedRead_sound with
        halted := (fun h => nomatch h), unmarked := by rintro w rest c ⟨⟩ ⟨⟩; exact ⟨rfl, fun h => nomatch h⟩ }, rfl, rfl, rfl⟩

/-- Source 0 with an entry and an element, and no other source with either. -/
theorem test_witness_FlushSourceSilencesOneSource :
    OrderSound (asked (cwriteAt 4 0x05000000#32) ordered1) ∧
    (asked (cwriteAt 4 0x05000000#32) ordered1).mgmtQueue = [cwriteAt 4 0x05000000#32] ∧
    (getAt (asked (cwriteAt 4 0x05000000#32) ordered1).sources 0).permission = true ∧
    (OrderSound (asked (cwriteAt 4 0x051F0000#32) start) ∧
      WriteTaken (asked (cwriteAt 4 0x051F0000#32) start) (cwriteAt 4 0x051F0000#32) [] 4 0x051F0000#32) := by
  refine ⟨{ ordered1_sound with }, rfl, by decide +kernel, ?_, start_taken (by decide) (by decide +kernel)⟩
  have ht : ∀ t, getAt start.tags t = .free := by decide +kernel
  have hl : ∀ l, getAt start.slots l = none := by decide +kernel
  have hn : ∀ n, getAt start.lists n = [] := by decide +kernel
  constructor
  · decide +kernel
  · intro m n l h; rw [show getAt (asked _ start).lists m = [] from hn m] at h; cases h
  · decide +kernel
  · intro t r l h; rw [show getAt (asked _ start).tags t = .free from ht t] at h; cases h
  · intro l e t h; rw [show getAt (asked _ start).slots l = none from hl l] at h; cases h
  · intro l e h; rw [show getAt (asked _ start).slots l = none from hl l] at h; cases h
  · intro l e h; rw [show getAt (asked _ start).slots l = none from hl l] at h; cases h
  · intro l e st h; rw [show getAt (asked _ start).slots l = none from hl l] at h; cases h
  · intro l e g h; rw [show getAt (asked _ start).slots l = none from hl l] at h; cases h
  · intro l e h; rw [show getAt (asked _ start).slots l = none from hl l] at h; cases h
  · decide +kernel
  · decide +kernel
  · decide +kernel

/-- An alert class in each state, with the destination valid and not. -/
theorem test_witness_AlertAckByClassState :
    (∀ x : AlertClass, ∀ d : Bool,
      let s := asked (cwriteAt 4 0x07010000#32)
        { start with alert := { start.alert with fatal := x, destValid := d } }
      WriteTaken s (cwriteAt 4 0x07010000#32) [] 4 0x07010000#32 ∧ s.alert.cls .fatal = x ∧
        s.alert.destValid = d) ∧
    (0x07010000#32).toNat / 2 ^ 24 = 7 :=
  ⟨fun _ _ => ⟨asked_taken Nat.zero_lt_two start_source (by decide) (by decide +kernel), rfl, rfl⟩, by decide⟩

/-- A record to pop, and none. -/
theorem test_witness_PopAndClearRecords :
    ∀ rs : List Record,
      let s := asked (cwriteAt 4 0x08000000#32) { start with err := { start.err with records := rs } }
      WriteTaken s (cwriteAt 4 0x08000000#32) [] 4 0x08000000#32 ∧ s.err.records = rs :=
  fun _ => ⟨asked_taken Nat.zero_lt_two start_source (by decide) (by decide +kernel), rfl⟩

/-- Sources 0 and 31; quotas 16 and 17; order mode 3. -/
theorem test_witness_SourceConfigurationWrites :
    (∀ n : SourceId, ∀ v, WriteTaken (asked (cwriteAt (0x100 + 8 * n.val) v) start)
      (cwriteAt (0x100 + 8 * n.val) v) [] (0x100 + 8 * n.val) v) ∧
    ((0x00020101#32).toNat / 16 % 32 ≤ 16 ∧ (0x00020101#32).toNat / 2 ^ 16 % 4 ≠ 3 ∧
      16 < (0x00000110#32).toNat / 16 % 32 ∧ (0x00030000#32).toNat / 2 ^ 16 % 4 = 3) :=
  ⟨fun n _ => start_taken (by omega) (by revert n; decide +kernel), by decide⟩

/-- Every word of every window; sizes 12 and 40 with bases of 0; a size of 13 beside an odd base; a size of 11, of 41,
and an access of 0. -/
theorem test_witness_StagingWindowWrites :
    (∀ (i : Fin 16) (k : Fin 4), ∀ v,
      WriteTaken (asked (cwriteAt (0x400 + 16 * i.val + 4 * k.val) v) start)
        (cwriteAt (0x400 + 16 * i.val + 4 * k.val) v) [] (0x400 + 16 * i.val + 4 * k.val) v) ∧
    (StagedWindow Window.unset 1 40#32 { Window.unset with sizeExp := 40#6 } ∧
      AlignedWindow { Window.unset with sizeExp := 40#6 }) ∧
    (StagedWindow Window.unset 0 0x30#32 { Window.unset with access := .readWrite } ∧
      AlignedWindow { Window.unset with access := .readWrite }) ∧
    (StagedWindow Window.unset 2 1#32 { Window.unset with base := 1#28 } ∧
      AlignedWindow { Window.unset with base := 1#28 }) ∧
    (StagedWindow window0 1 13#32 { window0 with sizeExp := 13#6 } ∧
      ¬AlignedWindow { window0 with sizeExp := 13#6 }) ∧
    (∀ w, ¬StagedWindow Window.unset 1 11#32 w) ∧ (∀ w, ¬StagedWindow Window.unset 1 41#32 w) ∧
    (∀ w, ¬StagedWindow Window.unset 0 0#32 w) := by
  refine ⟨fun i k _ => start_taken (by omega) (by revert i k; decide +kernel),
    ⟨.inr (.inl ⟨rfl, by decide, by decide, rfl⟩), ?_⟩,
    ⟨.inl ⟨rfl, .readWrite, .inr (.inr (by decide)), rfl⟩, ?_⟩, ⟨.inr (.inr (.inl ⟨rfl, rfl⟩)), ?_⟩,
    ⟨.inr (.inl ⟨rfl, by decide, by decide, rfl⟩), ?_⟩, ?_, ?_, ?_⟩
  iterate 4 (unfold AlignedWindow; decide +kernel)
  · rintro w (⟨h, -⟩ | ⟨-, h, -⟩ | ⟨h, -⟩ | ⟨h, -⟩) <;> exact absurd h (by decide)
  · rintro w (⟨h, -⟩ | ⟨-, -, h, -⟩ | ⟨h, -⟩ | ⟨h, -⟩) <;> exact absurd h (by decide)
  · rintro w (⟨-, a, h, -⟩ | ⟨h, -⟩ | ⟨h, -⟩ | ⟨h, -⟩)
    · rcases h with ⟨h, -⟩ | ⟨h, -⟩ | ⟨h, -⟩ <;> exact absurd h (by decide)
    all_goals exact absurd h (by decide)

/-- Limits 1 and 4095, and 0 under a set spare bit; a reload of 1 and of 0. -/
theorem test_witness_LimitAndTickWrites :
    ((1#32).toNat % 4096 ≠ 0 ∧ (4095#32).toNat % 4096 ≠ 0 ∧ (4096#32).toNat % 4096 = 0) ∧
    ((0x00010000#32).toNat / 2 ^ 16 ≠ 0 ∧ (0x00000003#32).toNat / 2 ^ 16 = 0) := by
  decide

/-- All ten codes 1, and the last of them 0. -/
theorem test_witness_ErrorWordWrites :
    (∀ j : Fin 10, (0x00055555#32).toNat / 4 ^ j.val % 4 ≠ 0) ∧
    (∃ j : Fin 10, (0x00015555#32).toNat / 4 ^ j.val % 4 = 0) := by
  decide +kernel

/-- QUIESCED with no tag QUARANTINED, and with the last one QUARANTINED. -/
theorem test_witness_AlertConfigurationAndFarSourceWrites (v : Word) :
    (let s := asked (cwriteAt 0x0C v) { start with opState := .quiesced }
    WriteTaken s (cwriteAt 0x0C v) [] 0x0C v ∧ s.opState = .quiesced ∧ ∀ g, getAt s.tags g = .free) ∧
    (let s := asked (cwriteAt 0x0C v) (withTag 63 (.quarantined abandoned) { start with opState := .quiesced })
    WriteTaken s (cwriteAt 0x0C v) [] 0x0C v ∧ getAt s.tags 63 = .quarantined abandoned) :=
  ⟨⟨asked_taken Nat.zero_lt_two start_source (by decide) (by decide +kernel), rfl,
      fun g => getAt_fillTable 64 TagState.free g⟩,
    asked_taken Nat.zero_lt_two start_source (by decide) (by decide +kernel),
    getAt_putAt_self _ _ _⟩

/-- READs of the first and the last word; every kind of read-only word at the ends of its range. -/
theorem test_witness_ReadsAndReadOnlyWords :
    (∀ off ∈ [0, 0x9FC], Taken (asked (readAt off) start) (readAt off) [] off ∧ (readAt off).kind = .read) ∧
    (∀ off ∈ [0, 0x5C, 0x104, 0x1FC, 0x500, 0x5FC, 0x800, 0x9FC], ∀ v,
      ReadOnlyOffset off ∧ WriteTaken (asked (cwriteAt off v) start) (cwriteAt off v) [] off v) := by
  constructor
  · intro off h
    have hr : ∀ off ∈ [0, 0x9FC], off < 0x1000 ∧ (mgmtWordAt off).isSome = true := by decide +kernel
    have t := start_taken (v := 0#32) (hr off h).1 (hr off h).2
    exact ⟨⟨rfl, .inr Nat.zero_lt_two, t.valid, t.permission, rfl, t.offset, t.assigned⟩, rfl⟩
  · intro off h v
    have hr : ∀ off ∈ [0, 0x5C, 0x104, 0x1FC, 0x500, 0x5FC, 0x800, 0x9FC],
        off < 0x1000 ∧ (mgmtWordAt off).isSome = true ∧ ReadOnlyOffset off := by
      unfold ReadOnlyOffset; decide +kernel
    exact ⟨(hr off h).2.2, start_taken (hr off h).1 (hr off h).2.1⟩

/-- Both answer slots filled; a source without permission; a length of 2; an unassigned offset; a poisoned
write. -/
theorem test_witness_ManagementChecks :
    (2 ≤ [answer0, answer0].length ∧ (cwriteAt 4 0#32).kind ≠ .write) ∧
    (getAt (withSource { SourceEntry.bootstrap with permission := false } start).sources 0).permission = false ∧
    ((getAt start.sources 0).valid = true ∧ (getAt start.sources 0).permission = true) ∧
    (mgmtWordAt ((cwriteAt 0x70 0#32).address.toNat - 0xFFFFFF0000) = none ∧
      (cwriteAt 0x70 0#32).length = 1 ∧ { cwriteAt 4 0#32 with length := 2 }.length ≠ 1) ∧
    (let r := { cwriteAt 4 0#32 with poison := true }
    Taken (asked r start) r [] 4 ∧ r.kind ≠ .read ∧ r.poison = true) ∧
    ((managing 1).mgmtQueue = [readAt 0] ∧ MgmtRow.swapBanks ≠ (readAt 0).row) := by
  refine ⟨by decide, by decide +kernel, by decide +kernel, by decide +kernel,
    ⟨⟨rfl, .inr (by decide), by decide +kernel, by decide +kernel, rfl, by decide, by decide⟩, by decide, rfl⟩,
    rfl, by decide⟩

/-- A masked kind and one that is not; the log with 7 records and with 8; a class IDLE and enabled, and with no valid
destination. -/
theorem test_witness_ErrorReports :
    ((start.err.item .noWindow).mask = false ∧
      (({ start.err with items := fillTable 20 { status := false, mask := true, severity := .fatal } }
        : ErrorUnit).item .noWindow).mask = true) ∧
    (let a := { start.alert with destValid := true, fatal := { start.alert.fatal with enable := true } }
    (a.cls .fatal).state = .idle ∧ (a.cls .fatal).enable = true ∧ a.destValid = true) ∧
    ((start.alert.cls .fatal).state = .idle ∧ start.alert.destValid = false) := by
  decide +kernel

theorem test_witness_SentPacketsCarryTheirFields :
    (request .read 64 0#40).length ≤ 64 ∧ (List.replicate 16 7#32).length ≤ 16 ∧ alert0.records ≤ 8 := by
  decide

/-! ### Invariants -/

/-- Source 0's list holds an element and tag 0 its entry; a DRAIN_STEP waits. -/
def sound1 : State := { ordered1 with pending := [.drainStep 0] }

theorem sound1_bounded : Bounded sound1 := by
  constructor <;> decide +kernel

theorem sound1_records : RecordsSound sound1 where
  limit := by intro t r h; obtain ⟨rfl, rfl⟩ := ordered1_tag h; decide
  link := by intro t r h; obtain ⟨rfl, rfl⟩ := ordered1_tag h; decide
  absorbed := by intro t r h; obtain ⟨rfl, rfl⟩ := ordered1_tag h; decide
  confirmed := by intro t r h; obtain ⟨rfl, rfl⟩ := ordered1_tag h; decide
  length := by intro t r h; obtain ⟨rfl, rfl⟩ := ordered1_tag h; decide
  received := by intro t r h; obtain ⟨rfl, rfl⟩ := ordered1_tag h; decide
  timely := by intro t r h; obtain ⟨rfl, rfl⟩ := ordered1_tag h; decide +kernel
  quarLimit := by
    intro t q h
    simp only [sound1, ordered1, withTag, getAt_putAt] at h
    split at h <;> simp [start, State.reset, State.afterReset] at h
  quarTimely := by
    intro t q h
    simp only [sound1, ordered1, withTag, getAt_putAt] at h
    split at h <;> simp [start, State.reset, State.afterReset] at h

theorem sound1_loaded : Loaded sound1 where
  quota := by decide +kernel
  size := by decide +kernel
  base := by decide +kernel
  transBase := by decide +kernel
  timeout := by decide +kernel
  quarantine := by decide +kernel
  reload := by decide +kernel
  pendingReload := fun _ h => nomatch h
  division := by decide +kernel

theorem sound1_alerts : AlertsSound sound1 where
  fatal := ⟨fun _ => ⟨rfl, rfl⟩, fun h => absurd rfl h, (fun _ h => nomatch h)⟩
  nonfatal := ⟨fun _ => ⟨rfl, rfl⟩, fun h => absurd rfl h, (fun _ h => nomatch h)⟩
  advisory := ⟨fun _ => ⟨rfl, rfl⟩, fun h => absurd rfl h, (fun _ h => nomatch h)⟩

theorem sound1_links : LinksSound sound1 where
  rqCredits := fun h => nomatch h
  forward := fun h => nomatch h
  management := fun h => nomatch h
  answers := fun h => nomatch h
  traffic := fun h => nomatch h
  malformed := fun h => nomatch h
  backlog := fun h => nomatch h
  lists := fun h => nomatch h
  absorbed := fun h => nomatch h
  rsCredits := fun h => nomatch h
  ingress := fun h => nomatch h
  tags := fun h => nomatch h

/-- The state in which the words are read meets the premises of their layout; here the words of its entry. -/
theorem test_witness_ReadsAndReadOnlyWords_layout :
    (Bounded sound1 ∧ OrderSound sound1 ∧ RecordsSound sound1) ∧
      sound1.layout (.tagFirst 0) = 1 + 10 * 2 ^ 7 + 2 ^ 15 + 2 ^ 17 ∧
      sound1.readWord (.tagFirst 0) = 0x00028501#32 ∧ sound1.readWord (.tagSecond 0) = 0x00000029#32 ∧
      sound1.readWord .holdStatus = 0x00100002#32 :=
  ⟨⟨sound1_bounded, { ordered1_sound with }, sound1_records⟩, by decide +kernel⟩

/-- The invariant holds of a state with an entry and an element in it, and its step answers a next state. -/
theorem test_witness_StepKeepsInvariant : Inv sound1 ∧ ∃ t, step sound1 = .next t :=
  ⟨{ bounded := sound1_bounded
     loaded := sound1_loaded
     sorted := ⟨(fun _ h => nomatch h), (fun _ h => nomatch h), (fun _ h => nomatch h), (fun _ h => nomatch h)⟩
     head := headSound_of_empty rfl rfl
     records := sound1_records
     order := { ordered1_sound with }
     waits := ⟨fun _ => rfl, fun _ => rfl⟩
     states := ⟨(fun h => h.elim (fun h => nomatch h) (fun h => nomatch h)), (fun h => nomatch h), (fun h => nomatch h)⟩
     links := sound1_links
     alerts := sound1_alerts }, _, rfl⟩

/-- A step in HALTED of a command that is neither a reset nor a row of the Management Agent. -/
theorem test_witness_WhatOnlyItsCommandsChange :
    (∃ t, exec .issue { start with opState := .halted } = .next t) ∧
    (∀ n, Instr.issue ≠ .deviceReset n) ∧ (∀ row : MgmtRow, Instr.issue ≠ row.command) ∧
    HeadSound { start with opState := .halted } :=
  ⟨⟨_, rfl⟩, by simp, by intro row; cases row <;> simp [MgmtRow.command], headSound_of_empty rfl rfl⟩

end Sys2Proof.Tests
end

section
/-! PROOF. Tallies over a table: the counts the invariant speaks of as sums, and how one replaced entry moves them. -/

namespace Sys2Proof.Machine

/-! ### Sums over a list and over a table -/

/-- Two functions that differ at one element of a duplicate-free list. -/
theorem sum_map_replace {α : Type} {l : List α} (hn : l.Nodup) {i : α} (hi : i ∈ l) {f g : α → Nat}
    (h : ∀ j, j ≠ i → f j = g j) : (l.map f).sum + g i = (l.map g).sum + f i := by
  induction l with
  | nil => exact absurd hi (List.not_mem_nil)
  | cons x l ih =>
    obtain ⟨hx, hn⟩ := List.nodup_cons.mp hn
    simp only [List.map_cons, List.sum_cons]
    rcases List.mem_cons.mp hi with rfl | hi
    · have : l.map f = l.map g := List.map_congr_left fun j hj => h j fun e => hx (e ▸ hj)
      rw [this]; omega
    · have := h x fun e => hx (e ▸ hi)
      have := ih hn hi
      omega

theorem countP_eq_sum {α : Type} (p : α → Bool) (l : List α) : l.countP p = (l.map fun x => (p x).toNat).sum := by
  induction l with
  | nil => rfl
  | cons x l ih => cases h : p x <;> simp [h, ih, Nat.add_comm]

/-- The sum of a weight over the entries of a table. -/
def tally {α : Type} {n : Nat} (f : α → Nat) (T : Table α n) : Nat :=
  ((List.finRange n).map fun i => f (getAt T i)).sum

theorem tally_putAt {α : Type} {n : Nat} (f : α → Nat) (T : Table α n) (i : Fin n) (x : α) :
    tally f (putAt T i x) + f (getAt T i) = tally f T + f x := by
  have := sum_map_replace (List.nodup_finRange n) (List.mem_finRange i)
    (f := fun j => f (getAt (putAt T i x) j)) (g := fun j => f (getAt T j))
    fun j hj => by rw [getAt_putAt_ne T x hj.symm]
  simpa [tally] using this

theorem tally_eq_zero {α : Type} {n : Nat} {f : α → Nat} {T : Table α n} (h : ∀ i, f (getAt T i) = 0) :
    tally f T = 0 := by
  simp [tally, h]

/-- A weight of at most 1 with an entry that weighs nothing leaves the tally below the table's size. -/
theorem tally_lt {α : Type} {n : Nat} {f : α → Nat} {T : Table α n} (hf : ∀ x, f x ≤ 1) (i : Fin n)
    (hi : f (getAt T i) = 0) : tally f T < n := by
  have hone := sum_map_replace (List.nodup_finRange n) (List.mem_finRange i)
    (f := fun j => f (getAt T j)) (g := fun j => if j = i then 1 else f (getAt T j)) fun j hj => by simp [hj]
  have hmax : ((List.finRange n).map fun j => if j = i then 1 else f (getAt T j)).sum ≤ n := by
    have := List.sum_le_card_nsmul ((List.finRange n).map fun j => if j = i then 1 else f (getAt T j)) 1
      fun x hx => by
        obtain ⟨j, -, rfl⟩ := List.mem_map.mp hx
        split
        · exact le_rfl
        · exact hf _
    simpa using this
  simp only [hi, if_true] at hone
  unfold tally; omega

theorem toList_eq_map_getAt {α : Type} {n : Nat} (T : Table α n) : T.toList = (List.finRange n).map (getAt T) := by
  apply List.ext_getElem <;> simp [getAt]

/-! ### The counts of the invariant as tallies -/

/-- Whether an entry counts toward source `n`'s outstanding count (R13). -/
def TagState.countsFor (n : SourceId) : TagState → Bool
  | .active r => decide (r.source = n) && !r.absorbed
  | _ => false

/-- Words a slot reserves (R90). -/
def slotReservation (x : Option Element) : Nat := (x.map Element.reservation).getD 0

/-- Whether a slot holds an element that waits no more: COMPLETE or FAILED (R13). -/
def slotEnded (x : Option Element) : Bool := x.any fun e => decide (e.state ≠ .awaiting)

theorem activeTags_eq_tally (s : State) : s.activeTags = tally (fun x => x.isActive.toNat) s.tags := by
  simp [State.activeTags, toList_eq_map_getAt, countP_eq_sum, tally, Function.comp_def]

theorem countedEntries_eq_tally (s : State) (n : SourceId) :
    s.countedEntries n = tally (fun x => (x.countsFor n).toNat) s.tags := by
  rw [State.countedEntries, countP_eq_sum]
  rfl

theorem countedElements_eq_sum (s : State) (n : SourceId) :
    s.countedElements n = ((getAt s.lists n).map fun l => (slotEnded (getAt s.slots l)).toNat).sum :=
  countP_eq_sum _ _

theorem sum_reservation_filterMap (l : List (Option Element)) :
    ((l.filterMap id).map Element.reservation).sum = (l.map slotReservation).sum := by
  induction l with
  | nil => rfl
  | cons x l ih => cases x <;> simp [slotReservation, ← ih]

theorem reservedWords_eq_tally (s : State) : s.reservedWords = tally slotReservation s.slots := by
  rw [State.reservedWords, State.elements, sum_reservation_filterMap, toList_eq_map_getAt, List.map_map]
  rfl

/-- How a replaced entry moves the number of ACTIVE tags. -/
theorem activeTags_of_putAt {s u : State} {t : PoolTag} {x : TagState} (h : u.tags = putAt s.tags t x) :
    u.activeTags + (getAt s.tags t).isActive.toNat = s.activeTags + x.isActive.toNat := by
  rw [activeTags_eq_tally, activeTags_eq_tally, h]
  exact tally_putAt _ _ _ _

/-- A FREE tag leaves room for one more ACTIVE tag. -/
theorem activeTags_lt {s : State} {t : PoolTag} (h : (getAt s.tags t).isActive = false) : s.activeTags < 64 := by
  rw [activeTags_eq_tally]
  exact tally_lt (fun x => by cases x.isActive <;> simp) t (by simp [h])

end Sys2Proof.Machine
end

section
/-! PROOF. Return ordering: the parts of `OrderSound`, and the ways in which a step moves an entry, an element and a
count together. -/

namespace Sys2Proof.Machine

/-! ### The parts of the invariant -/

/-- The lists hold each used slot once (R85, R86). -/
structure PlacesFit (s : State) : Prop where
  nodup : ∀ n, (getAt s.lists n).Nodup
  disjoint : ∀ m n l, l ∈ getAt s.lists m → l ∈ getAt s.lists n → m = n
  used : ∀ l, (getAt s.slots l).isSome = true ↔ ∃ n, l ∈ getAt s.lists n

/-- The element that the entry `r` of tag `t` links to agrees with it (R86 to R88). -/
structure Matches (t : PoolTag) (r : ActiveRec) (e : Element) : Prop where
  link : e.link = some t
  tag : e.tag = r.tag
  kind : e.kind = r.kind
  reservation : e.reservation = r.length
  stored : e.stored ≤ r.received

/-- Entries and AWAITING elements link each other. -/
structure LinksFit (s : State) : Prop where
  entry : ∀ t r l, getAt s.tags t = .active r → r.link = some l →
    l ∈ getAt s.lists r.source ∧ ∃ e, getAt s.slots l = some e ∧ Matches t r e
  element : ∀ l e t, getAt s.slots l = some e → e.link = some t →
    ∃ r, getAt s.tags t = .active r ∧ r.link = some l

/-- What an element's state says about its words (R86, R90, R91). -/
structure ElementFits (e : Element) : Prop where
  awaiting : (e.state = .awaiting ↔ e.link.isSome = true) ∧ (e.state = .awaiting → e.storedDone = false)
  complete : e.state = .complete → (e.kind = .cwrite ∧ e.storedDone = true ∧ e.segs = []) ∨
    (e.kind = .read ∧ e.storedDone = false ∧ e.segs ≠ [])
  failed : ∀ st, e.state = .failed st → e.segs = [] ∧ e.reservation = 0
  segments : ∀ g ∈ e.segs, 1 ≤ g.words.length ∧ g.words.length ≤ 16
  stored : e.stored ≤ e.reservation

/-- Every element fits, in whatever slot it stands. -/
def ElementsFit (s : State) : Prop := ∀ l e, getAt s.slots l = some e → ElementFits e

/-- Each outstanding count is the number R13 defines and at most 16. -/
structure CountsFit (s : State) : Prop where
  count : ∀ n, (getAt s.sources n).count = s.countedEntries n + s.countedElements n
  countMax : ∀ n, (getAt s.sources n).count ≤ 16

theorem orderSound_iff (s : State) :
    OrderSound s ↔ PlacesFit s ∧ LinksFit s ∧ ElementsFit s ∧ s.reservedWords ≤ 512 ∧ CountsFit s := by
  constructor
  · intro h
    refine ⟨⟨h.nodup, h.disjoint, h.used⟩, ⟨fun t r l ht hl => ?_, h.element⟩, fun l e he => ?_, h.reserved,
      ⟨h.count, h.countMax⟩⟩
    · obtain ⟨hm, e, he, h1, h2, h3, h4, h5⟩ := h.entry t r l ht hl
      exact ⟨hm, e, he, ⟨h1, h2, h3, h4, h5⟩⟩
    · exact ⟨h.awaiting l e he, h.complete l e he, fun st => h.failed l e st he, fun g => h.segments l e g he,
        h.stored l e he⟩
  · rintro ⟨hp, hl, he, hr, hc⟩
    exact { nodup := hp.nodup, disjoint := hp.disjoint, used := hp.used
            entry := fun t r l ht hk => by
              obtain ⟨hm, e, he, h⟩ := hl.entry t r l ht hk
              exact ⟨hm, e, he, h.link, h.tag, h.kind, h.reservation, h.stored⟩
            element := hl.element
            awaiting := fun l e h => (he l e h).awaiting
            complete := fun l e h => (he l e h).complete
            failed := fun l e st h => (he l e h).failed st
            segments := fun l e g h => (he l e h).segments g
            stored := fun l e h => (he l e h).stored
            reserved := hr, count := hc.count, countMax := hc.countMax }

/-! ### The lists -/

theorem setSlot_tags (l : SlotId) (x : Option Element) (s : State) : (setSlot l x s).tags = s.tags := rfl

theorem appendElement_tags (n : SourceId) (l : SlotId) (e : Element) (s : State) :
    (appendElement n l e s).tags = s.tags := rfl

theorem getAt_tags_setTag (t : PoolTag) (x : TagState) (s : State) (g : PoolTag) :
    getAt (setTag t x s).tags g = if t = g then x else getAt s.tags g :=
  getAt_putAt _ _ _ _

theorem getAt_slots_setSlot (l : SlotId) (x : Option Element) (s : State) (k : SlotId) :
    getAt (setSlot l x s).slots k = if l = k then x else getAt s.slots k :=
  getAt_putAt _ _ _ _

theorem getAt_slots_removeElement (n : SourceId) (l : SlotId) (s : State) (k : SlotId) :
    getAt (removeElement n l s).slots k = if l = k then none else getAt s.slots k :=
  getAt_putAt _ _ _ _

theorem getAt_slots_appendElement (n : SourceId) (l : SlotId) (e : Element) (s : State) (k : SlotId) :
    getAt (appendElement n l e s).slots k = if l = k then some e else getAt s.slots k :=
  getAt_putAt _ _ _ _

theorem getAt_lists_removeElement (n : SourceId) (l : SlotId) (s : State) (m : SourceId) :
    getAt (removeElement n l s).lists m = if n = m then (getAt s.lists n).erase l else getAt s.lists m :=
  getAt_putAt _ _ _ _

theorem getAt_lists_appendElement (n : SourceId) (l : SlotId) (e : Element) (s : State) (m : SourceId) :
    getAt (appendElement n l e s).lists m = if n = m then getAt s.lists n ++ [l] else getAt s.lists m :=
  getAt_putAt _ _ _ _

theorem PlacesFit.mem_removeElement {s : State} (h : PlacesFit s) {n : SourceId} {l : SlotId}
    (hl : l ∈ getAt s.lists n) (m : SourceId) (k : SlotId) :
    k ∈ getAt (removeElement n l s).lists m ↔ k ≠ l ∧ k ∈ getAt s.lists m := by
  rw [getAt_lists_removeElement]
  split
  · next e => subst e; exact (h.nodup n).mem_erase_iff
  · next e => exact ⟨fun hk => ⟨fun hkl => e (h.disjoint n m l hl (hkl ▸ hk)), hk⟩, And.right⟩

theorem mem_appendElement (n : SourceId) (l : SlotId) (e : Element) (s : State) (m : SourceId) (k : SlotId) :
    k ∈ getAt (appendElement n l e s).lists m ↔ k ∈ getAt s.lists m ∨ (n = m ∧ k = l) := by
  rw [getAt_lists_appendElement]
  split
  · next h => subst h; simp
  · next h => simp [h]

/-- A list's slots hold elements. -/
theorem PlacesFit.some_of_mem {s : State} (h : PlacesFit s) {n : SourceId} {l : SlotId} (hl : l ∈ getAt s.lists n) :
    ∃ e, getAt s.slots l = some e :=
  Option.isSome_iff_exists.mp ((h.used l).mpr ⟨n, hl⟩)

/-- A free slot is in no list. -/
theorem PlacesFit.not_mem_of_none {s : State} (h : PlacesFit s) {l : SlotId} (hl : getAt s.slots l = none)
    (n : SourceId) : l ∉ getAt s.lists n := fun hm => by
  obtain ⟨e, he⟩ := h.some_of_mem hm
  rw [hl] at he
  exact nomatch he

theorem PlacesFit.frame {s u : State} (h : PlacesFit s) (hs : u.slots = s.slots) (hl : u.lists = s.lists) :
    PlacesFit u where
  nodup := hl ▸ h.nodup
  disjoint := hl ▸ h.disjoint
  used := hs ▸ hl ▸ h.used

theorem PlacesFit.after_setSlot {s : State} (h : PlacesFit s) {n : SourceId} {l : SlotId} (hl : l ∈ getAt s.lists n)
    (e : Element) : PlacesFit (setSlot l (some e) s) where
  nodup := h.nodup
  disjoint := h.disjoint
  used k := by
    rw [getAt_slots_setSlot]
    split
    · next e => subst e; exact ⟨fun _ => ⟨n, hl⟩, fun _ => rfl⟩
    · exact h.used k

theorem PlacesFit.after_removeElement {s : State} (h : PlacesFit s) {n : SourceId} {l : SlotId}
    (hl : l ∈ getAt s.lists n) : PlacesFit (removeElement n l s) where
  nodup m := by
    rw [getAt_lists_removeElement]
    split
    · exact (h.nodup n).erase l
    · exact h.nodup m
  disjoint a b k ha hb :=
    h.disjoint a b k ((h.mem_removeElement hl a k).mp ha).2 ((h.mem_removeElement hl b k).mp hb).2
  used k := by
    simp only [h.mem_removeElement hl, getAt_slots_removeElement]
    by_cases e : l = k
    · simp [e]
    · simp [e, h.used k, Ne.symm e]

theorem PlacesFit.after_appendElement {s : State} (h : PlacesFit s) (n : SourceId) {l : SlotId} (e : Element)
    (hl : getAt s.slots l = none) : PlacesFit (appendElement n l e s) where
  nodup m := by
    rw [getAt_lists_appendElement]
    split
    · exact List.nodup_append.mpr ⟨h.nodup n, List.nodup_singleton l, fun a ha b hb => by
        rintro rfl; exact h.not_mem_of_none hl n (List.mem_singleton.mp hb ▸ ha)⟩
    · exact h.nodup m
  disjoint a b k ha hb := by
    rw [mem_appendElement] at ha hb
    rcases ha with ha | ⟨hna, hka⟩
    · rcases hb with hb | ⟨-, hkb⟩
      · exact h.disjoint a b k ha hb
      · exact absurd (hkb ▸ ha) (h.not_mem_of_none hl a)
    · rcases hb with hb | ⟨hnb, -⟩
      · exact absurd (hka ▸ hb) (h.not_mem_of_none hl b)
      · exact hna.symm.trans hnb
  used k := by
    simp only [mem_appendElement, getAt_slots_appendElement]
    by_cases e : l = k
    · simp [e]
    · simp [e, h.used k, Ne.symm e]

/-! ### The links -/

theorem LinksFit.frame {s u : State} (h : LinksFit s) (ht : u.tags = s.tags) (hs : u.slots = s.slots)
    (hl : u.lists = s.lists) : LinksFit u where
  entry := ht ▸ hs ▸ hl ▸ h.entry
  element := ht ▸ hs ▸ h.element

/-- A tag moves between states that link to no element. -/
theorem LinksFit.after_setTag_unlinked {s : State} (h : LinksFit s) {t : PoolTag} {x : TagState}
    (hs : ∀ r, getAt s.tags t = .active r → r.link = none) (hx : ∀ r, x = .active r → r.link = none) :
    LinksFit (setTag t x s) where
  entry t' r l hr hl := by
    rw [getAt_tags_setTag] at hr
    split at hr
    · rw [hx r hr] at hl; exact nomatch hl
    · exact h.entry t' r l hr hl
  element l e t' he hl := by
    obtain ⟨r, hr, hk⟩ := h.element l e t' he hl
    refine ⟨r, ?_, hk⟩
    rw [getAt_tags_setTag, if_neg, hr]
    rintro rfl
    rw [hs r hr] at hk
    exact nomatch hk

/-- An ACTIVE entry changes in what no element reads. -/
theorem LinksFit.after_setTag_active {s : State} (h : LinksFit s) {t : PoolTag} {r r' : ActiveRec}
    (hr : getAt s.tags t = .active r) (hsource : r'.source = r.source) (hlink : r'.link = r.link)
    (hm : ∀ e, Matches t r e → Matches t r' e) : LinksFit (setTag t (.active r') s) where
  entry t' q l hq hl := by
    rw [getAt_tags_setTag] at hq
    split at hq
    · next e =>
      subst e
      obtain rfl := TagState.active.inj hq
      obtain ⟨hmem, e, he, hfit⟩ := h.entry t r l hr (hlink ▸ hl)
      exact ⟨hsource ▸ hmem, e, he, hm e hfit⟩
    · exact h.entry t' q l hq hl
  element l e t' he hl := by
    obtain ⟨q, hq, hk⟩ := h.element l e t' he hl
    by_cases e : t = t'
    · subst e
      rw [hr] at hq
      obtain rfl := TagState.active.inj hq
      exact ⟨r', by simp [getAt_tags_setTag], hlink ▸ hk⟩
    · exact ⟨q, by rw [getAt_tags_setTag, if_neg e, hq], hk⟩

/-- An element changes and keeps its link, and its entry still agrees with it. -/
theorem LinksFit.after_setSlot {s : State} (h : LinksFit s) {l : SlotId} {e e' : Element}
    (he : getAt s.slots l = some e) (hlink : e'.link = e.link)
    (hm : ∀ t r, getAt s.tags t = .active r → r.link = some l → Matches t r e → Matches t r e') :
    LinksFit (setSlot l (some e') s) where
  entry t r k hr hk := by
    obtain ⟨hmem, d, hd, hfit⟩ := h.entry t r k hr hk
    refine ⟨hmem, ?_⟩
    by_cases hkl : l = k
    · subst hkl
      rw [he] at hd
      obtain rfl := Option.some.inj hd
      exact ⟨e', by simp [getAt_slots_setSlot], hm t r hr hk hfit⟩
    · exact ⟨d, by rw [getAt_slots_setSlot, if_neg hkl, hd], hfit⟩
  element k d t hd hl := by
    rw [getAt_slots_setSlot] at hd
    split at hd
    · next hkl =>
      subst hkl
      obtain rfl := Option.some.inj hd
      exact h.element l e t he (hlink ▸ hl)
    · exact h.element k d t hd hl

/-- An element that no entry links to leaves. -/
theorem LinksFit.after_removeElement {s : State} (h : LinksFit s) (hp : PlacesFit s) {n : SourceId} {l : SlotId}
    {e : Element} (hl : l ∈ getAt s.lists n) (he : getAt s.slots l = some e) (hlink : e.link = none) :
    LinksFit (removeElement n l s) where
  entry t r k hr hk := by
    obtain ⟨hmem, d, hd, hfit⟩ := h.entry t r k hr hk
    have hkl : k ≠ l := by
      rintro rfl
      rw [he] at hd
      obtain rfl := Option.some.inj hd
      exact nomatch hlink.symm.trans hfit.link
    exact ⟨(hp.mem_removeElement hl _ _).mpr ⟨hkl, hmem⟩, d,
      by rw [getAt_slots_removeElement, if_neg hkl.symm, hd], hfit⟩
  element k d t hd hk := by
    rw [getAt_slots_removeElement] at hd
    split at hd
    · exact nomatch hd
    · exact h.element k d t hd hk

/-- An entry leaves ACTIVE and its element stops waiting: both links go. -/
theorem LinksFit.after_unlink {s : State} (h : LinksFit s) {t : PoolTag} {r : ActiveRec} {l : SlotId} {x : TagState}
    {e' : Element} (hr : getAt s.tags t = .active r) (hl : r.link = some l) (hx : x.isActive = false)
    (hlink : e'.link = none) : LinksFit (setSlot l (some e') (setTag t x s)) where
  entry t' q k hq hk := by
    rw [setSlot_tags, getAt_tags_setTag] at hq
    split at hq
    · rw [hq] at hx; exact nomatch hx
    · next htt =>
      obtain ⟨hmem, d, hd, hfit⟩ := h.entry t' q k hq hk
      have hlk : l ≠ k := by
        rintro rfl
        obtain ⟨-, d', hd', hfit'⟩ := h.entry t r l hr hl
        rw [hd] at hd'
        obtain rfl := Option.some.inj hd'
        exact htt (Option.some.inj (hfit'.link.symm.trans hfit.link))
      exact ⟨hmem, d, by rw [getAt_slots_setSlot, if_neg hlk]; exact hd, hfit⟩
  element k d t' hd hk := by
    rw [getAt_slots_setSlot] at hd
    split at hd
    · obtain rfl := Option.some.inj hd
      exact nomatch hlink.symm.trans hk
    · next hlk =>
      obtain ⟨q, hq, hqk⟩ := h.element k d t' hd hk
      refine ⟨q, ?_, hqk⟩
      rw [setSlot_tags, getAt_tags_setTag, if_neg]
      · exact hq
      · rintro rfl
        rw [hr] at hq
        obtain rfl := TagState.active.inj hq
        exact hlk (Option.some.inj (hl.symm.trans hqk))

/-- An issue links a FREE tag and a free slot. -/
theorem LinksFit.after_issue {s : State} (h : LinksFit s) {t : PoolTag} {l : SlotId} {r : ActiveRec} {e : Element}
    (ht : (getAt s.tags t).isActive = false) (hs : getAt s.slots l = none) (hl : r.link = some l)
    (hm : Matches t r e) : LinksFit (appendElement r.source l e (setTag t (.active r) s)) where
  entry t' q k hq hk := by
    rw [appendElement_tags, getAt_tags_setTag] at hq
    split at hq
    · next htt =>
      subst htt
      obtain rfl := TagState.active.inj hq
      obtain rfl := Option.some.inj (hl.symm.trans hk)
      exact ⟨(mem_appendElement _ _ _ _ _ _).mpr (.inr ⟨rfl, rfl⟩), e, by simp [getAt_slots_appendElement], hm⟩
    · obtain ⟨hmem, d, hd, hfit⟩ := h.entry t' q k hq hk
      refine ⟨(mem_appendElement _ _ _ _ _ _).mpr (.inl hmem), d, ?_, hfit⟩
      rw [getAt_slots_appendElement, if_neg]
      · exact hd
      · rintro rfl; rw [hs] at hd; exact nomatch hd
  element k d t' hd hk := by
    rw [getAt_slots_appendElement] at hd
    split at hd
    · next hlk =>
      subst hlk
      obtain rfl := Option.some.inj hd
      obtain rfl := Option.some.inj (hm.link.symm.trans hk)
      exact ⟨r, by simp [getAt_tags_setTag], hl⟩
    · obtain ⟨q, hq, hqk⟩ := h.element k d t' hd hk
      refine ⟨q, ?_, hqk⟩
      rw [appendElement_tags, getAt_tags_setTag, if_neg]
      · exact hq
      · rintro rfl; rw [hq] at ht; exact nomatch ht

/-- The invariant reads the tags, the slots, the lists and the counts alone. -/
theorem OrderSound.frame {s u : State} (h : OrderSound s) (hk : u.tags = s.tags ∧ u.slots = s.slots ∧ u.lists = s.lists)
    (hc : ∀ n, (getAt u.sources n).count = (getAt s.sources n).count) : OrderSound u := by
  obtain ⟨ht, hs, hl⟩ := hk
  obtain ⟨hp, hk, he, hr, ⟨c1, c2⟩⟩ := (orderSound_iff s).mp h
  have hE : ∀ n, u.countedEntries n = s.countedEntries n := fun n => by
    rw [countedEntries_eq_tally, countedEntries_eq_tally, ht]
  have hK : ∀ n, u.countedElements n = s.countedElements n := fun n => by
    rw [countedElements_eq_sum, countedElements_eq_sum, hs, hl]
  refine (orderSound_iff u).mpr ⟨hp.frame hs hl, hk.frame ht hs hl, ?_, ?_, ⟨?_, ?_⟩⟩
  · unfold ElementsFit; rwa [hs]
  · rwa [reservedWords_eq_tally, hs, ← reservedWords_eq_tally]
  · intro n; rw [hc, hE, hK, c1]
  · intro n; rw [hc]; exact c2 n

end Sys2Proof.Machine
end

section
/-! PROOF. The ways in which the blocks move an entry, an element and a count keep `OrderSound`. -/

namespace Sys2Proof.Machine

/-! ### How the counts move -/

theorem countsFor_of_inactive {x : TagState} (h : x.isActive = false) (n : SourceId) : x.countsFor n = false := by
  cases x with
  | active r => exact nomatch h
  | free => rfl
  | quarantined q => rfl

theorem countsFor_active (r : ActiveRec) (n : SourceId) :
    (TagState.active r).countsFor n = (decide (r.source = n) && !r.absorbed) := rfl

theorem count_mapCount (n : SourceId) (f : Nat → Nat) (s : State) (m : SourceId) :
    (getAt (mapCount n f s).sources m).count =
      if n = m then f (getAt s.sources m).count else (getAt s.sources m).count := by
  simp only [mapCount, getAt_putAt]
  split
  · next h => subst h; rfl
  · rfl

theorem count_lowerCount (n : SourceId) (s : State) (m : SourceId) :
    (getAt (lowerCount n s).sources m).count = (getAt s.sources m).count - if n = m then 1 else 0 := by
  rw [lowerCount, count_mapCount]; split <;> rfl

theorem count_raiseCount (n : SourceId) (s : State) (m : SourceId) :
    (getAt (raiseCount n s).sources m).count = (getAt s.sources m).count + if n = m then 1 else 0 := by
  rw [raiseCount, count_mapCount]; split <;> rfl

theorem countedEntries_of_putAt {s u : State} {t : PoolTag} {x : TagState} (h : u.tags = putAt s.tags t x)
    (n : SourceId) : u.countedEntries n + ((getAt s.tags t).countsFor n).toNat =
      s.countedEntries n + (x.countsFor n).toNat := by
  rw [countedEntries_eq_tally, countedEntries_eq_tally, h]
  exact tally_putAt _ _ _ _

theorem reservedWords_of_putAt {s u : State} {l : SlotId} {x : Option Element} (h : u.slots = putAt s.slots l x) :
    u.reservedWords + slotReservation (getAt s.slots l) = s.reservedWords + slotReservation x := by
  rw [reservedWords_eq_tally, reservedWords_eq_tally, h]
  exact tally_putAt _ _ _ _

/-- A slot's content outside a list does not move the list's count. -/
theorem sum_ended_congr {s : State} {l : SlotId} {x : Option Element} {ls : List SlotId} (h : l ∉ ls) :
    (ls.map fun k => (slotEnded (getAt (putAt s.slots l x) k)).toNat).sum =
      (ls.map fun k => (slotEnded (getAt s.slots k)).toNat).sum := by
  congr 1
  refine List.map_congr_left fun k hk => ?_
  rw [getAt_putAt_ne]
  rintro rfl
  exact h hk

theorem PlacesFit.countedElements_setSlot {s : State} (h : PlacesFit s) {m : SourceId} {l : SlotId}
    (hl : l ∈ getAt s.lists m) (x : Option Element) (n : SourceId) :
    (setSlot l x s).countedElements n + (if m = n then (slotEnded (getAt s.slots l)).toNat else 0) =
      s.countedElements n + if m = n then (slotEnded x).toNat else 0 := by
  rw [countedElements_eq_sum, countedElements_eq_sum]
  by_cases hmn : m = n
  · subst hmn
    have := sum_map_replace (h.nodup m) hl (f := fun k => (slotEnded (getAt (putAt s.slots l x) k)).toNat)
      (g := fun k => (slotEnded (getAt s.slots k)).toNat) fun k hk => by rw [getAt_putAt_ne _ _ hk.symm]
    simpa [setSlot] using this
  · simpa [setSlot, hmn] using sum_ended_congr fun hn => hmn (h.disjoint m n l hl hn)

theorem PlacesFit.countedElements_removeElement {s : State} (h : PlacesFit s) {m : SourceId} {l : SlotId}
    (hl : l ∈ getAt s.lists m) (n : SourceId) :
    (removeElement m l s).countedElements n + (if m = n then (slotEnded (getAt s.slots l)).toNat else 0) =
      s.countedElements n := by
  rw [countedElements_eq_sum, countedElements_eq_sum, getAt_lists_removeElement]
  by_cases hmn : m = n
  · subst hmn
    have hperm := (List.perm_cons_erase hl).map fun k => (slotEnded (getAt s.slots k)).toNat
    rw [hperm.sum_eq]
    have := sum_ended_congr (s := s) (l := l) (x := none) fun hn => ((h.nodup m).mem_erase_iff.mp hn).1 rfl
    simp only [if_true, List.map_cons, List.sum_cons, removeElement, this]
    omega
  · simpa [removeElement, hmn] using sum_ended_congr fun hn => hmn (h.disjoint m n l hl hn)

theorem PlacesFit.countedElements_appendElement {s : State} (h : PlacesFit s) (m : SourceId) {l : SlotId}
    (hl : getAt s.slots l = none) (e : Element) (n : SourceId) :
    (appendElement m l e s).countedElements n =
      s.countedElements n + if m = n then (slotEnded (some e)).toNat else 0 := by
  rw [countedElements_eq_sum, countedElements_eq_sum, getAt_lists_appendElement]
  have hsum := fun k => sum_ended_congr (s := s) (x := some e) (h.not_mem_of_none hl k)
  by_cases hmn : m = n
  · subst hmn
    simp [appendElement, hsum]
  · simp [appendElement, hmn, hsum]

/-! ### Elements in their slots -/

theorem ElementsFit.after_setSlot {s : State} (h : ElementsFit s) (l : SlotId) {e : Element} (he : ElementFits e) :
    ElementsFit (setSlot l (some e) s) := fun k d hd => by
  rw [getAt_slots_setSlot] at hd
  split at hd
  · exact Option.some.inj hd ▸ he
  · exact h k d hd

theorem ElementsFit.after_removeElement {s : State} (h : ElementsFit s) (n : SourceId) (l : SlotId) :
    ElementsFit (removeElement n l s) := fun k d hd => by
  rw [getAt_slots_removeElement] at hd
  split at hd
  · exact nomatch hd
  · exact h k d hd

theorem ElementsFit.after_appendElement {s : State} (h : ElementsFit s) (n : SourceId) (l : SlotId) {e : Element}
    (he : ElementFits e) : ElementsFit (appendElement n l e s) := fun k d hd => by
  rw [getAt_slots_appendElement] at hd
  split at hd
  · exact Option.some.inj hd ▸ he
  · exact h k d hd

theorem ElementFits.slotEnded_eq {e : Element} (h : ElementFits e) : slotEnded (some e) = e.link.isNone := by
  have := h.awaiting.1
  cases hl : e.link <;> simp_all [slotEnded]

theorem elementFits_fail (e : Element) (st : Status) : ElementFits (e.fail st) := by
  constructor <;> simp [Element.fail, Element.stored]

theorem putAt_putAt_self {α : Type} {n : Nat} (T : Table α n) (i : Fin n) (x y : α) :
    putAt (putAt T i x) i y = putAt T i y := by
  simp [putAt]

/-! ### What keeps the agreement -/

namespace OrderSound

variable {s : State}

theorem places (h : OrderSound s) : PlacesFit s := ((orderSound_iff s).mp h).1

theorem links (h : OrderSound s) : LinksFit s := ((orderSound_iff s).mp h).2.1

theorem elements (h : OrderSound s) : ElementsFit s := ((orderSound_iff s).mp h).2.2.1

/-- A tag moves between FREE and QUARANTINED. -/
theorem setTag_inactive (h : OrderSound s) {t : PoolTag} {x : TagState} (hs : (getAt s.tags t).isActive = false)
    (hx : x.isActive = false) : OrderSound (setTag t x s) := by
  refine (orderSound_iff _).mpr ⟨h.places.frame rfl rfl, ?_, h.elements, h.reserved, fun n => ?_, h.countMax⟩
  · exact h.links.after_setTag_unlinked (fun r hr => by rw [hr] at hs; exact nomatch hs)
      (fun r hr => by rw [hr] at hx; exact nomatch hx)
  · have := countedEntries_of_putAt (u := setTag t x s) rfl n
    rw [countsFor_of_inactive hs, countsFor_of_inactive hx] at this
    exact (h.count n).trans (congrArg (· + _) this.symm)

/-- An ACTIVE entry changes in what it has received and delivered. -/
theorem setTag_active (h : OrderSound s) {t : PoolTag} {r r' : ActiveRec} (hr : getAt s.tags t = .active r)
    (hsame : r'.source = r.source ∧ r'.link = r.link ∧ r'.absorbed = r.absorbed ∧ r'.tag = r.tag ∧ r'.kind = r.kind ∧
      r'.length = r.length) (hle : r.received ≤ r'.received) : OrderSound (setTag t (.active r') s) := by
  obtain ⟨hsource, hlink, habs, htag, hkind, hlen⟩ := hsame
  refine (orderSound_iff _).mpr ⟨h.places.frame rfl rfl, ?_, h.elements, h.reserved, fun n => ?_, h.countMax⟩
  · exact h.links.after_setTag_active hr hsource hlink fun e m =>
      ⟨m.link, m.tag.trans htag.symm, m.kind.trans hkind.symm, m.reservation.trans hlen.symm, m.stored.trans hle⟩
  · have := countedEntries_of_putAt (u := setTag t (.active r') s) rfl n
    rw [hr, countsFor_active, countsFor_active, hsource, habs] at this
    exact (h.count n).trans (congrArg (· + _) (Nat.add_right_cancel this).symm)

/-- An entry that links to no element leaves ACTIVE, and is counted no more (R14). -/
theorem leave_unlinked (h : OrderSound s) {t : PoolTag} {r : ActiveRec} {x : TagState}
    (hr : getAt s.tags t = .active r) (hl : r.link = none) (hx : x.isActive = false) :
    OrderSound (setTag t x (if r.absorbed then s else lowerCount r.source s)) := by
  have hf := h.links.after_setTag_unlinked (t := t) (x := x)
    (fun q hq => by rw [hr] at hq; exact TagState.active.inj hq ▸ hl) (fun q hq => by rw [hq] at hx; exact nomatch hx)
  have hent := fun n => countedEntries_of_putAt (u := setTag t x s) rfl n
  simp only [hr, countsFor_of_inactive hx, countsFor_active] at hent
  cases habs : r.absorbed with
  | true =>
    refine (orderSound_iff _).mpr ⟨h.places.frame rfl rfl, hf, h.elements, h.reserved, fun n => ?_, h.countMax⟩
    exact (h.count n).trans (congrArg (· + _) (by simpa [habs] using (hent n).symm))
  | false =>
    refine (orderSound_iff _).mpr ⟨h.places.frame rfl rfl, hf.frame rfl rfl rfl, h.elements, h.reserved,
      fun n => ?_, fun n => ?_⟩
    · have hn : (setTag t x s).countedEntries n + (if r.source = n then 1 else 0) = s.countedEntries n := by
        have := hent n
        by_cases hsn : r.source = n <;> simpa [habs, hsn] using this
      have hc := h.count n
      show (getAt (lowerCount r.source s).sources n).count = (setTag t x s).countedEntries n + s.countedElements n
      rw [count_lowerCount]
      by_cases hsn : r.source = n <;> simp only [hsn, if_true, if_false] at hn ⊢ <;> omega
    · show (getAt (lowerCount r.source s).sources n).count ≤ 16
      have := h.countMax n
      rw [count_lowerCount]; omega

/-- An element changes in its stored segments alone. -/
theorem setSegs (h : OrderSound s) {l : SlotId} {e : Element} (he : getAt s.slots l = some e) (gs : List Segment)
    (hfit : ElementFits { e with segs := gs })
    (hm : ∀ t r, getAt s.tags t = .active r → r.link = some l → ({ e with segs := gs } : Element).stored ≤ r.received) :
    OrderSound (setSlot l (some { e with segs := gs }) s) := by
  obtain ⟨m, hl⟩ := (h.places.used l).mp (by rw [he]; rfl)
  refine (orderSound_iff _).mpr ⟨h.places.after_setSlot hl _, ?_, h.elements.after_setSlot l hfit, ?_, fun n => ?_,
    h.countMax⟩
  · exact h.links.after_setSlot he rfl fun t r hr hk m => ⟨m.link, m.tag, m.kind, m.reservation, hm t r hr hk⟩
  · have := reservedWords_of_putAt (s := s) (u := setSlot l (some { e with segs := gs }) s) rfl
    rw [he] at this
    exact (Nat.add_right_cancel this).trans_le h.reserved
  · have := h.places.countedElements_setSlot hl (some { e with segs := gs }) n
    rw [he] at this
    exact (h.count n).trans (congrArg (_ + ·) (Nat.add_right_cancel this).symm)

/-- An entry leaves ACTIVE and its element is COMPLETE or FAILED from now on: the count moves from the one to the
other (R13). -/
theorem finish (h : OrderSound s) {t : PoolTag} {r : ActiveRec} {l : SlotId} {x : TagState} {e e' : Element}
    (hr : getAt s.tags t = .active r) (hl : r.link = some l) (habs : r.absorbed = false) (hx : x.isActive = false)
    (he : getAt s.slots l = some e) (hlink : e'.link = none) (hfit : ElementFits e')
    (hres : e'.reservation ≤ e.reservation) :
    OrderSound (setSlot l (some e') (setTag t x s)) := by
  obtain ⟨hmem, d, hd, hmatch⟩ := h.links.entry t r l hr hl
  obtain rfl := Option.some.inj (he.symm.trans hd)
  have hp : PlacesFit (setTag t x s) := h.places.frame rfl rfl
  refine (orderSound_iff _).mpr ⟨hp.after_setSlot hmem _, h.links.after_unlink hr hl hx hlink,
    ElementsFit.after_setSlot (s := setTag t x s) h.elements l hfit, ?_, fun n => ?_, h.countMax⟩
  · have := reservedWords_of_putAt (s := s) (u := setSlot l (some e') (setTag t x s)) rfl
    rw [he] at this
    simp only [slotReservation, Option.map_some, Option.getD_some] at this
    have := h.reserved
    omega
  · have hent := countedEntries_of_putAt (s := s) (u := setSlot l (some e') (setTag t x s)) rfl n
    have hel : _ = s.countedElements n + _ := hp.countedElements_setSlot hmem (some e') n
    rw [hr, countsFor_of_inactive hx, countsFor_active, habs] at hent
    rw [show getAt (setTag t x s).slots l = some e from he, hfit.slotEnded_eq, hlink,
      (h.elements l e he).slotEnded_eq, hmatch.link] at hel
    have hc := h.count n
    show (getAt s.sources n).count = _
    by_cases hn : r.source = n <;> simp [hn] at hent hel <;> omega

/-- An element that no entry links to leaves its list, and is counted no more (R14). -/
theorem drop (h : OrderSound s) {n : SourceId} {l : SlotId} {e : Element} (hl : l ∈ getAt s.lists n)
    (he : getAt s.slots l = some e) (hlink : e.link = none) : OrderSound (lowerCount n (removeElement n l s)) := by
  refine (orderSound_iff _).mpr ⟨(h.places.after_removeElement hl).frame rfl rfl,
    (h.links.after_removeElement h.places hl he hlink).frame rfl rfl rfl, h.elements.after_removeElement n l, ?_,
    fun m => ?_, fun m => ?_⟩
  · have := reservedWords_of_putAt (s := s) (u := lowerCount n (removeElement n l s)) rfl
    simp only [slotReservation, Option.map_none, Option.getD_none] at this
    have := h.reserved
    omega
  · have hel := h.places.countedElements_removeElement hl m
    rw [he, (h.elements l e he).slotEnded_eq, hlink] at hel
    have hc := h.count m
    show (getAt (lowerCount n s).sources m).count = s.countedEntries m + (removeElement n l s).countedElements m
    rw [count_lowerCount]
    by_cases hn : n = m <;> simp [hn] at hel ⊢ <;> omega
  · show (getAt (lowerCount n s).sources m).count ≤ 16
    have := h.countMax m
    rw [count_lowerCount]; omega

/-- An entry and its element leave together, and are counted no more (R14). -/
theorem leave_removed (h : OrderSound s) {t : PoolTag} {r : ActiveRec} {l : SlotId} {x : TagState}
    (hr : getAt s.tags t = .active r) (hl : r.link = some l) (habs : r.absorbed = false) (hx : x.isActive = false) :
    OrderSound (lowerCount r.source (removeElement r.source l (setTag t x s))) := by
  obtain ⟨hmem, e, he, -⟩ := h.links.entry t r l hr hl
  have hfail := h.finish (e' := e.fail .timeout) hr hl habs hx he rfl (elementFits_fail e _) (Nat.zero_le _)
  have hdrop := hfail.drop (n := r.source) (e := e.fail .timeout) hmem (by simp [getAt_slots_setSlot]) rfl
  refine hdrop.frame ⟨rfl, ?_, rfl⟩ fun _ => rfl
  exact (putAt_putAt_self _ _ _ _).symm

/-- An issue without an element (R39). -/
theorem issue_unlinked (h : OrderSound s) {t : PoolTag} {r : ActiveRec} (ht : (getAt s.tags t).isActive = false)
    (hl : r.link = none) (hc : r.absorbed = false → (getAt s.sources r.source).count < 16) :
    OrderSound (setTag t (.active r) (if r.absorbed then s else raiseCount r.source s)) := by
  have hf := h.links.after_setTag_unlinked (t := t) (x := .active r)
    (fun q hq => by rw [hq] at ht; exact nomatch ht) (fun q hq => TagState.active.inj hq ▸ hl)
  have hent := fun n => countedEntries_of_putAt (u := setTag t (.active r) s) rfl n
  simp only [countsFor_of_inactive ht, countsFor_active] at hent
  cases habs : r.absorbed with
  | true =>
    refine (orderSound_iff _).mpr ⟨h.places.frame rfl rfl, hf, h.elements, h.reserved, fun n => ?_, h.countMax⟩
    exact (h.count n).trans (congrArg (· + _) (by simpa [habs] using (hent n).symm))
  | false =>
    have hsum : ∀ n, (setTag t (.active r) s).countedEntries n = s.countedEntries n + if r.source = n then 1 else 0 :=
      fun n => by
        have := hent n
        by_cases hsn : r.source = n <;> simpa [habs, hsn] using this
    refine (orderSound_iff _).mpr ⟨h.places.frame rfl rfl, hf.frame rfl rfl rfl, h.elements, h.reserved,
      fun n => ?_, fun n => ?_⟩
    · show (getAt (raiseCount r.source s).sources n).count =
        (setTag t (.active r) s).countedEntries n + s.countedElements n
      rw [count_raiseCount, h.count n, hsum]
      omega
    · show (getAt (raiseCount r.source s).sources n).count ≤ 16
      have := h.countMax n
      rw [count_raiseCount]
      split
      · next hn => have := hc habs; rw [hn] at this; omega
      · omega

/-- An issue with an element (R39). -/
theorem issue_linked (h : OrderSound s) {t : PoolTag} {l : SlotId} {r : ActiveRec} {e : Element}
    (ht : (getAt s.tags t).isActive = false) (hs : getAt s.slots l = none) (hl : r.link = some l)
    (habs : r.absorbed = false) (hm : Matches t r e) (hfit : ElementFits e)
    (hroom : s.reservedWords + e.reservation ≤ 512) (hc : (getAt s.sources r.source).count < 16) :
    OrderSound (raiseCount r.source (appendElement r.source l e (setTag t (.active r) s))) := by
  have hp : PlacesFit (setTag t (.active r) s) := h.places.frame rfl rfl
  refine (orderSound_iff _).mpr ⟨(hp.after_appendElement r.source e hs).frame rfl rfl,
    (h.links.after_issue ht hs hl hm).frame rfl rfl rfl,
    ElementsFit.after_appendElement (s := setTag t (.active r) s) h.elements r.source l hfit, ?_,
    fun n => ?_, fun n => ?_⟩
  · have := reservedWords_of_putAt (s := s)
      (u := raiseCount r.source (appendElement r.source l e (setTag t (.active r) s))) rfl
    simp only [hs, slotReservation, Option.map_some, Option.map_none, Option.getD_some, Option.getD_none] at this
    omega
  · have hent := countedEntries_of_putAt (s := s)
      (u := appendElement r.source l e (setTag t (.active r) s)) rfl n
    have hel : _ = s.countedElements n + _ := hp.countedElements_appendElement r.source hs e n
    rw [countsFor_of_inactive ht, countsFor_active, habs] at hent
    rw [hfit.slotEnded_eq, hm.link] at hel
    have hcount := h.count n
    show (getAt (raiseCount r.source s).sources n).count =
      (appendElement r.source l e (setTag t (.active r) s)).countedEntries n +
        (appendElement r.source l e (setTag t (.active r) s)).countedElements n
    rw [count_raiseCount]
    by_cases hn : r.source = n <;> simp [hn] at hent hel ⊢ <;> omega
  · show (getAt (raiseCount r.source s).sources n).count ≤ 16
    have := h.countMax n
    rw [count_raiseCount]
    split
    · next hn => rw [hn] at hc; omega
    · omega

end OrderSound

/-- Nothing is ordered and nothing counted: no element, and no entry but absorbed ones (R18, R101). -/
theorem orderSound_of_cleared {s : State} (hlists : ∀ n, getAt s.lists n = []) (hslots : ∀ l, getAt s.slots l = none)
    (htags : ∀ t r, getAt s.tags t = .active r → r.absorbed = true ∧ r.link = none)
    (hcount : ∀ n, (getAt s.sources n).count = 0) : OrderSound s := by
  refine (orderSound_iff s).mpr ⟨⟨fun n => ?_, fun m n l hm => ?_, fun l => ?_⟩, ⟨fun t r l hr hl => ?_,
    fun l e t he => ?_⟩, fun l e he => ?_, ?_, fun n => ?_, fun n => ?_⟩
  · rw [hlists]; exact List.nodup_nil
  · rw [hlists] at hm; exact nomatch hm
  · simp [hslots, hlists]
  · rw [(htags t r hr).2] at hl; exact nomatch hl
  · rw [hslots] at he; exact nomatch he
  · rw [hslots] at he; exact nomatch he
  · rw [reservedWords_eq_tally, tally_eq_zero fun l => by rw [hslots]; rfl]
    exact Nat.zero_le _
  · have hent : s.countedEntries n = 0 := by
      rw [countedEntries_eq_tally]
      refine tally_eq_zero fun t => ?_
      cases hx : getAt s.tags t with
      | active r => simp [countsFor_active, (htags t r hx).1]
      | free => rfl
      | quarantined q => rfl
    rw [hcount, hent, countedElements_eq_sum, hlists]
    rfl
  · rw [hcount]; exact Nat.zero_le _

end Sys2Proof.Machine
end

section
/-! PROOF. `Working`: what every shared operation keeps between the start of a step and its end, and the frames with
which an operation that leaves most of it alone is done with in one line. -/

namespace Sys2Proof.Machine

/-! ### What the operations keep -/

/-- What issue and termination rely on in an entry (R3, R4). -/
structure EntryFits (r : ActiveRec) : Prop where
  absorbed : r.absorbed = true → r.link = none ∧ r.kind = .cwrite
  confirmed : r.kind = .cwrite → r.length = 0

/-- A classification result fits its request (R27, R34, R38). -/
structure PlanFits (r : Request) (c : Classified) : Prop where
  cls : c.cls = .nonPosted ↔ r.kind ≠ .write
  ordered : c.ordered = true → c.cls = .nonPosted
  reservation : c.reservation = if c.ordered = true ∧ r.kind = .read then r.length else 0

/-- A CLASSIFIED head fits its request and finds room under its source's count. -/
def HeadFits (s : State) : Prop :=
  ∀ w rest c, s.forwardQueue = w :: rest → s.headPhase = .classified c →
    PlanFits w.req c ∧ (c.cls = .nonPosted → (getAt s.sources w.req.source).count < 16)

/-- No answer waits while more than `k` places of the Traffic Queue are free. Between a transmission and the giving of
the place it freed, `k` is 1; elsewhere 0 (R130, R131). -/
structure AnswersWait (k : Nat) (s : State) : Prop where
  backlog : s.trafficQueue.length + k < 32 → s.backlog = []
  malformed : s.trafficQueue.length + k < 32 → s.malformedList = []

/-- The part of the invariant that holds inside a step too. -/
structure Working (k : Nat) (s : State) : Prop where
  bounded : Bounded s
  waits : AnswersWait k s
  order : OrderSound s
  entries : ∀ t r, getAt s.tags t = .active r → EntryFits r
  head : HeadFits s
  arrived : ∀ p ∈ s.ingress, p.kind = .data → 1 ≤ p.data.length ∧ p.data.length ≤ 16

/-- What a step leaves behind: the two statements' claims. -/
structure Settled (s : State) : Prop where
  bounded : Bounded s
  waits : NoneWaits s
  order : OrderSound s

theorem Working.settled {s : State} (h : Working 0 s) : Settled s :=
  ⟨h.bounded, ⟨h.waits.backlog, h.waits.malformed⟩, h.order⟩

/-- The state that a command finds when the invariant held before the step. -/
theorem Inv.working {s u : State} (h : Inv s) (hu : u = { s with pending := u.pending }) : Working 0 u := by
  rw [hu]
  obtain ⟨hb, -, hs, hh, hr, ho, hw, -, -, -⟩ := h
  exact
    { bounded := { hb with }
      waits := ⟨hw.backlog, hw.malformed⟩
      order := ho.frame ⟨rfl, rfl, rfl⟩ fun _ => rfl
      entries := fun t r ht =>
        ⟨fun ha => ⟨by
            have hord := (hr.absorbed t r ht ha).1
            have hlink := hr.link t r ht
            rw [hord] at hlink
            simpa using hlink, (hr.absorbed t r ht ha).2⟩,
          hr.confirmed t r ht⟩
      head := fun w rest c hq hp =>
        ⟨⟨hh.cls w rest c hq hp, hh.ordered w rest c hq hp, hh.reservation w rest c hq hp⟩, hh.room w rest c hq hp⟩
      arrived := hs.data }

/-! ### Frames -/

/-- `u` holds the queues, lists and credits of `s`, or less. -/
structure QueueFrame (s u : State) : Prop where
  forwardQueue : u.forwardQueue = s.forwardQueue
  headPhase : u.headPhase = s.headPhase
  malformedList : u.malformedList = s.malformedList
  mgmtQueue : u.mgmtQueue.length ≤ s.mgmtQueue.length
  trafficQueue : u.trafficQueue = s.trafficQueue
  ingress : u.ingress <:+ s.ingress
  mgmtSlots : u.mgmtSlots.length ≤ s.mgmtSlots.length
  records : s.err.records.length ≤ 8 → u.err.records.length ≤ 8
  rqCredits : u.rqCredits ≤ s.rqCredits
  rsCredits : u.rsCredits ≤ s.rsCredits
  backlog : u.backlog = s.backlog

theorem malformedOf_congr {s u : State} (h : u.malformedList = s.malformedList) (p : PoolCode) :
    u.malformedOf p = s.malformedOf p := by
  rw [State.malformedOf, h, State.malformedOf]

theorem activeTags_congr {s u : State} (h : u.tags = s.tags) : u.activeTags = s.activeTags := by
  rw [State.activeTags, h, State.activeTags]

theorem Bounded.frame {s u : State} (h : Bounded s) (hq : QueueFrame s u)
    (hb : u.backlog.length + u.activeTags ≤ 64) : Bounded u where
  ordinary := by rw [hq.forwardQueue, malformedOf_congr hq.malformedList]; exact h.ordinary
  management := by
    rw [malformedOf_congr hq.malformedList]
    exact (Nat.add_le_add_right hq.mgmtQueue _).trans h.management
  noReturn := by rw [hq.malformedList]; exact h.noReturn
  traffic := by rw [hq.trafficQueue]; exact h.traffic
  ingress := hq.ingress.length_le.trans h.ingress
  answers := hq.mgmtSlots.trans h.answers
  records := hq.records h.records
  rqCredits := hq.rqCredits.trans h.rqCredits
  rsCredits := hq.rsCredits.trans h.rsCredits
  backlog := hb

theorem AnswersWait.frame {k : Nat} {s u : State} (h : AnswersWait k s) (hq : QueueFrame s u) : AnswersWait k u where
  backlog := by rw [hq.trafficQueue, hq.backlog]; exact h.backlog
  malformed := by rw [hq.trafficQueue, hq.malformedList]; exact h.malformed

theorem HeadFits.frame {s u : State} (h : HeadFits s) (hq : u.forwardQueue = s.forwardQueue)
    (hp : u.headPhase = s.headPhase) (hc : ∀ n, (getAt u.sources n).count ≤ (getAt s.sources n).count) :
    HeadFits u := fun w rest c hw hcl => by
  obtain ⟨hplan, hroom⟩ := h w rest c (hq ▸ hw) (hp ▸ hcl)
  exact ⟨hplan, fun hn => (hc _).trans_lt (hroom hn)⟩

theorem entriesFit_of_putAt {s u : State} {t : PoolTag} {x : TagState}
    (h : ∀ t r, getAt s.tags t = .active r → EntryFits r) (hu : u.tags = putAt s.tags t x)
    (hx : ∀ r, x = .active r → EntryFits r) : ∀ t r, getAt u.tags t = .active r → EntryFits r := fun g r hr => by
  rw [hu, getAt_putAt] at hr
  split at hr
  · exact hx r hr
  · exact h g r hr

/-- An operation on entries, elements and counts that leaves the queues alone. -/
theorem Working.frame_queues {k : Nat} {s u : State} (h : Working k s) (ho : OrderSound u) (hq : QueueFrame s u)
    (ht : u.activeTags ≤ s.activeTags) (he : ∀ t r, getAt u.tags t = .active r → EntryFits r)
    (hc : ∀ n, (getAt u.sources n).count ≤ (getAt s.sources n).count) : Working k u where
  bounded := h.bounded.frame hq (by rw [hq.backlog]; exact (Nat.add_le_add_left ht _).trans h.bounded.backlog)
  waits := h.waits.frame hq
  order := ho
  entries := he
  head := h.head.frame hq.forwardQueue hq.headPhase hc
  arrived p hp := h.arrived p (hq.ingress.subset hp)

/-- An operation that leaves the queues, the entries, the elements and the counts alone. Where the laws of its updates
show that, `simp` fills in the frame. -/
theorem Working.frame {k : Nat} {s u : State} (h : Working k s) (hq : QueueFrame s u := by constructor <;> simp)
    (hk : u.tags = s.tags ∧ u.slots = s.slots ∧ u.lists = s.lists := by simp)
    (hc : ∀ n, (getAt u.sources n).count = (getAt s.sources n).count := by simp) : Working k u :=
  h.frame_queues (h.order.frame hk hc) hq (activeTags_congr hk.1).le (by rw [hk.1]; exact h.entries) fun n => (hc n).le

/-- A tag leaves ACTIVE, or one that is not ACTIVE moves. -/
theorem Working.frame_tag {k : Nat} {s u : State} (h : Working k s) {t : PoolTag} {x : TagState} (ho : OrderSound u)
    (hq : QueueFrame s u) (hu : u.tags = putAt s.tags t x) (hx : x.isActive = false)
    (hc : ∀ n, (getAt u.sources n).count ≤ (getAt s.sources n).count) : Working k u := by
  refine h.frame_queues ho hq ?_ ?_ hc
  · have := activeTags_of_putAt hu
    simp only [hx, Bool.toNat_false] at this
    omega
  · exact entriesFit_of_putAt h.entries hu fun r hr => by rw [hr] at hx; exact nomatch hx

/-! ### Elementary operations -/

theorem report_records {k : ErrorKind} {port : Option PortId} {id : Ident} {s : State} (h : s.err.records.length ≤ 8) :
    (report k port id s).err.records.length ≤ 8 := by
  unfold report reportUnmasked ErrorUnit.append Config.recordRoom
  dsimp only [ErrorUnit.setStatus]
  split
  · exact h
  · dsimp only
    split
    · next hl => simp only [List.length_append, List.length_singleton]; omega
    · exact h

theorem queueFrame_report (k : ErrorKind) (port : Option PortId) (id : Ident) (s : State) :
    QueueFrame s (report k port id s) := by
  constructor
  case records => exact report_records
  all_goals simp

theorem Working.report {k : Nat} {s : State} (h : Working k s) (e : ErrorKind) (port : Option PortId) (id : Ident) :
    Working k (report e port id s) :=
  h.frame (queueFrame_report e port id s) (by simp) (by simp)

theorem Working.returnRqCredits {k : Nat} {s : State} (h : Working k s) (p : PoolCode) (n : Nat) :
    Working k (returnRqCredits p n s) :=
  h.frame

theorem Working.returnRsCredits {k : Nat} {s : State} (h : Working k s) (n : Nat) : Working k (returnRsCredits n s) :=
  h.frame

/-- The Forward Queue shortens to one whose head is not CLASSIFIED, or keeps its head. -/
theorem Working.frame_forward {k : Nat} {s : State} (h : Working k s) {q : List Waiting} {p : HeadPhase}
    (hq : q.length ≤ s.forwardQueue.length)
    (hp : ∀ c, p = .classified c → p = s.headPhase ∧ q.head? = s.forwardQueue.head?) :
    Working k { s with forwardQueue := q, headPhase := p } where
  bounded := { h.bounded with ordinary := (Nat.add_le_add_right hq _).trans h.bounded.ordinary }
  waits := ⟨h.waits.backlog, h.waits.malformed⟩
  order := h.order.frame ⟨rfl, rfl, rfl⟩ fun _ => rfl
  entries := h.entries
  head w rest c hw hc := by
    obtain ⟨hph, hhd⟩ := hp c hc
    obtain ⟨rest', hrest⟩ := List.head?_eq_some_iff.mp (hhd.symm.trans (congrArg List.head? hw))
    exact h.head w rest' c hrest (hph ▸ hc)
  arrived := h.arrived

theorem Working.setPhase {k : Nat} {s : State} (h : Working k s) {p : HeadPhase} (hp : ∀ c, p ≠ .classified c) :
    Working k (setPhase p s) :=
  h.frame_forward le_rfl fun c hc => absurd hc (hp c)

theorem Working.removeHead {k : Nat} {s : State} (h : Working k s) : Working k (removeHead s) :=
  (h.frame_forward (q := s.forwardQueue.tail) (p := .new) (by simp) fun _ hc => nomatch hc).returnRqCredits _ _

/-- A response placed in a Traffic Queue that has room. -/
theorem Working.pushTraffic {k : Nat} {s : State} (h : Working k s) (hroom : s.trafficHasRoom = true) (r : Response) :
    Working k (pushTraffic r s) := by
  have hlen : (Machine.pushTraffic r s).trafficQueue.length = s.trafficQueue.length + 1 := by simp [Machine.pushTraffic]
  have := (trafficHasRoom_iff s).mp hroom
  exact
    { bounded := { h.bounded with traffic := by omega }
      waits := ⟨fun hl => h.waits.backlog (by omega), fun hl => h.waits.malformed (by omega)⟩
      order := h.order.frame ⟨rfl, rfl, rfl⟩ fun _ => rfl
      entries := h.entries
      head := h.head
      arrived := h.arrived }

end Sys2Proof.Machine
end

section
/-! PROOF. The end of an entry, termination, expiry and lapse keep `Working`. -/

namespace Sys2Proof.Machine

/-! ### The end of an entry -/

theorem leaveActive_tags (t : PoolTag) (x : TagState) (s : State) : (leaveActive t x s).tags = putAt s.tags t x := by
  simp [leaveActive, setTag]

theorem mapElement_of_some {s : State} {l : SlotId} {e : Element} (he : getAt s.slots l = some e)
    (f : Element → Element) : mapElement l f s = setSlot l (some (f e)) s := by
  rw [mapElement, State.element, he]; rfl

theorem count_lowerCount_le (n : SourceId) (s : State) (m : SourceId) :
    (getAt (lowerCount n s).sources m).count ≤ (getAt s.sources m).count := by
  rw [count_lowerCount]; exact Nat.sub_le _ _

section

variable {k : Nat} {s : State} {t : PoolTag} {r : ActiveRec} {x : TagState}

/-- An entry that links to no element leaves ACTIVE. -/
theorem Working.leave_unlinked (h : Working k s) (hr : getAt s.tags t = .active r) (hl : r.link = none)
    (habs : r.absorbed = false) (hx : x.isActive = false) : Working k (leaveActive t x (lowerCount r.source s)) := by
  have ho := h.order.leave_unlinked hr hl hx
  rw [habs] at ho
  refine h.frame_tag (ho.frame ?_ ?_) ?_ (leaveActive_tags _ _ _) hx ?_
  · simp [leaveActive, setTag]
  · intro n; simp [leaveActive]
  · constructor <;> simp
  · intro n; simpa using count_lowerCount_le _ _ _

/-- An absorbed entry leaves ACTIVE. -/
theorem Working.leave_absorbed (h : Working k s) (hr : getAt s.tags t = .active r)
    (habs : r.absorbed = true) (hx : x.isActive = false) : Working k (leaveActive t x s) := by
  have ho := h.order.leave_unlinked hr ((h.entries t r hr).absorbed habs).1 hx
  rw [habs] at ho
  refine h.frame_tag (ho.frame ?_ ?_) ?_ (leaveActive_tags _ _ _) hx ?_
  · simp [leaveActive, setTag]
  · intro n; simp [leaveActive]
  · constructor <;> simp
  · intro n; simp

/-- An absorbed entry links to no element. -/
theorem Working.not_absorbed (h : Working k s) (hr : getAt s.tags t = .active r) {l : SlotId} (hl : r.link = some l) :
    r.absorbed = false :=
  Bool.eq_false_iff.mpr fun ha => nomatch ((h.entries t r hr).absorbed ha).1.symm.trans hl

/-- An entry leaves ACTIVE together with its element. -/
theorem Working.leave_removed (h : Working k s) (hr : getAt s.tags t = .active r) {l : SlotId} (hl : r.link = some l)
    (hx : x.isActive = false) :
    Working k (leaveActive t x (lowerCount r.source (removeElement r.source l s))) := by
  have ho := h.order.leave_removed hr hl (h.not_absorbed hr hl) hx
  refine h.frame_tag (ho.frame ?_ ?_) ?_ (leaveActive_tags _ _ _) hx ?_
  · simp [leaveActive, setTag, removeElement]
  · intro n; simp [leaveActive, lowerCount, mapCount]
  · constructor <;> simp
  · intro n
    simpa [leaveActive, lowerCount, mapCount] using count_lowerCount_le r.source s n

/-- An entry leaves ACTIVE and its element is COMPLETE or FAILED from now on. -/
theorem Working.finish (h : Working k s) (hr : getAt s.tags t = .active r) {l : SlotId} (hl : r.link = some l)
    (hx : x.isActive = false) {e e' : Element} (he : getAt s.slots l = some e) (hlink : e'.link = none)
    (hfit : ElementFits e') (hres : e'.reservation ≤ e.reservation) :
    Working k (leaveActive t x (setSlot l (some e') s)) := by
  have ho := h.order.finish hr hl (h.not_absorbed hr hl) hx he hlink hfit hres
  refine h.frame_tag (ho.frame ?_ ?_) ?_ (leaveActive_tags _ _ _) hx ?_
  · simp [leaveActive, setTag, setSlot]
  · intro n; simp [leaveActive]
  · constructor <;> simp
  · intro n; simp

/-- A tag moves between FREE and QUARANTINED. -/
theorem Working.setTag_inactive (h : Working k s) (hs : (getAt s.tags t).isActive = false) (hx : x.isActive = false) :
    Working k (setTag t x s) :=
  h.frame_tag (h.order.setTag_inactive hs hx) (by constructor <;> simp) rfl hx fun n => by simp

/-- An answer joins the backlog: there is a tag that is not ACTIVE to spare, and none waits beside a free place. -/
theorem Working.appendBacklog (h : Working k s) (hb : s.backlog.length + s.activeTags < 64)
    (hw : s.backlog ≠ [] ∨ s.trafficHasRoom = false) (a : BacklogAnswer) :
    Working k { s with backlog := s.backlog ++ [a] } := by
  have hfull : ¬ s.trafficQueue.length + k < 32 := fun hl => by
    rcases hw with hw | hw
    · exact hw (h.waits.backlog hl)
    · rw [(trafficHasRoom_iff s).mpr (by omega)] at hw; exact nomatch hw
  have hlen : (s.backlog ++ [a]).length + s.activeTags ≤ 64 := by simp; omega
  exact
    { bounded := { h.bounded with backlog := hlen }
      waits := ⟨fun hl => absurd hl hfull, fun hl => absurd hl hfull⟩
      order := h.order.frame ⟨rfl, rfl, rfl⟩ fun _ => rfl
      entries := h.entries
      head := h.head
      arrived := h.arrived }

end

/-! ### Termination -/

theorem placeFail_cases (a : BacklogAnswer) (s : State) :
    (s.trafficHasRoom = true ∧
        placeFail a s = pushTraffic { dest := a.source, tag := a.tag, body := .fail a.status } s) ∨
      ((s.backlog ≠ [] ∨ s.trafficHasRoom = false) ∧ placeFail a s = { s with backlog := s.backlog ++ [a] }) := by
  unfold placeFail
  split
  · next h => exact .inl ⟨(Bool.and_eq_true_iff.mp h).2, rfl⟩
  · next h =>
    refine .inr ⟨?_, rfl⟩
    rw [Bool.and_eq_true, not_and_or, List.isEmpty_iff, Bool.not_eq_true] at h
    exact h

theorem leaveActive_backlog (t : PoolTag) (x : TagState) (n : SourceId) (b : List BacklogAnswer) (s : State) :
    leaveActive t x (lowerCount n { s with backlog := b }) =
      { leaveActive t x (lowerCount n s) with backlog := b } := by
  have h : (setTag t x (lowerCount n { s with backlog := b })).activeTags =
    (setTag t x (lowerCount n s)).activeTags := rfl
  simp only [leaveActive, drained, h, setTag_keeps, lowerCount_keeps]
  split <;> rfl

/-- The FAIL of an unordered entry, placed or put in the backlog (R8). -/
theorem Working.leave_failed {k : Nat} {s : State} (h : Working k s) {t : PoolTag} {r : ActiveRec} {x : TagState}
    (hr : getAt s.tags t = .active r) (hl : r.link = none) (habs : r.absorbed = false) (hx : x.isActive = false)
    (a : BacklogAnswer) : Working k (leaveActive t x (lowerCount r.source (placeFail a s))) := by
  rcases placeFail_cases a s with ⟨hroom, e⟩ | ⟨hw, e⟩
  · rw [e]
    exact (h.pushTraffic hroom _).leave_unlinked hr hl habs hx
  · rw [e, leaveActive_backlog]
    have hv := h.leave_unlinked hr hl habs hx
    have hb : (leaveActive t x (lowerCount r.source s)).backlog = s.backlog := by simp
    have hq : (leaveActive t x (lowerCount r.source s)).trafficQueue = s.trafficQueue := by simp
    rw [← hb]
    refine hv.appendBacklog ?_ ?_ a
    · have hn := activeTags_of_putAt (leaveActive_tags t x (lowerCount r.source s))
      have hs : (lowerCount r.source s).activeTags = s.activeTags := activeTags_congr (by simp)
      rw [show (lowerCount r.source s).tags = s.tags by simp, hr, hx, hs] at hn
      simp only [TagState.isActive, Bool.toNat_true, Bool.toNat_false] at hn
      have := h.bounded.backlog
      rw [hb]
      omega
    · rwa [hb, State.trafficHasRoom, hq]

theorem destState_inactive (s : State) (r : ActiveRec) (d : TagDest) : (s.destState r d).isActive = false := by
  cases d <;> rfl

theorem Working.terminate {k : Nat} {s : State} (h : Working k s) (t : PoolTag) (ans : Option Status) (dest : TagDest) :
    Working k (terminate t ans dest s) := by
  unfold Machine.terminate
  split
  · next r hr =>
    have hx := destState_inactive s r dest
    unfold answerEntry
    split
    · next habs => exact h.leave_absorbed hr habs hx
    · next habs =>
      rw [Bool.not_eq_true] at habs
      split
      · next hl => exact h.leave_failed hr hl habs hx _
      · next hl => exact h.leave_unlinked hr hl habs hx
      · next l st hl =>
        obtain ⟨-, e, he, -⟩ := h.order.links.entry t r l hr hl
        rw [mapElement_of_some he]
        exact h.finish hr hl hx he rfl (elementFits_fail e st) (Nat.zero_le _)
      · next l hl => exact h.leave_removed hr hl hx
  · exact h

/-- A fold of operations that each keep `Working`. -/
theorem Working.foldl {k : Nat} {α : Type} {g : State → α → State} (hg : ∀ s x, Working k s → Working k (g s x))
    {s : State} (h : Working k s) (l : List α) : Working k (l.foldl g s) :=
  List.foldlRecOn l g h fun s hs x _ => hg s x hs

theorem Working.terminateAll {k : Nat} {s : State} (h : Working k s) (which : ActiveRec → Bool) (ans : Option Status)
    (dest : TagDest) : Working k (terminateAll which ans dest s) := by
  refine Working.foldl (fun s t hs => ?_) h _
  split
  · split
    · exact hs.terminate t ans dest
    · exact hs
  · exact hs

theorem isActive_of_isQuarantined {x : TagState} (h : x.isQuarantined = true) : x.isActive = false := by
  cases x with
  | active r => exact nomatch h
  | free => rfl
  | quarantined q => rfl

theorem Working.freeQuarantined {k : Nat} {s : State} (h : Working k s) : Working k (freeQuarantined s) := by
  refine Working.foldl (fun s t hs => ?_) h _
  split
  · next hq => exact hs.setTag_inactive (isActive_of_isQuarantined hq) rfl
  · exact hs

/-! ### Expiry and lapse -/

theorem Working.expireTag {k : Nat} {s : State} (h : Working k s) (t : PoolTag) : Working k (expireTag t s) := by
  unfold Machine.expireTag
  split
  · split
    · exact (h.report _ _ _).terminate t _ _
    · exact h
  · exact h

theorem Working.lapseTag {k : Nat} {s : State} (h : Working k s) (t : PoolTag) : Working k (lapseTag t s) := by
  unfold Machine.lapseTag
  split
  · next q hq =>
    split
    · exact h.setTag_inactive (by rw [hq]; rfl) rfl
    · exact h
  · exact h

theorem Working.expireAndLapse {k : Nat} {s : State} (h : Working k s) : Working k (expireAndLapse s) :=
  Working.foldl (fun _ t hs => hs.lapseTag t) (Working.foldl (fun _ t hs => hs.expireTag t) h _) _

end Sys2Proof.Machine
end

section
/-! PROOF. The Response Matcher, the draining heads and the room distribution keep `Working`. -/

namespace Sys2Proof.Machine

/-! ### Draining (R94) -/

theorem stored_append (e : Element) (g : Segment) :
    ({ e with segs := e.segs ++ [g] } : Element).stored = e.stored + g.words.length := by
  simp [Element.stored, Segment.count]

theorem stored_tail_le (e : Element) : ({ e with segs := e.segs.tail } : Element).stored ≤ e.stored := by
  cases h : e.segs <;> simp [Element.stored, h]

/-- A final packet leaves an element that no entry links to. -/
theorem ElementFits.link_of_drainsFinal {e : Element} (h : ElementFits e) {b : Body} (hb : e.drainBody = some b)
    (hf : e.drainsFinal = true) : e.link = none := by
  have hstate : e.state ≠ .awaiting := fun ha => by
    unfold Element.drainBody at hb
    unfold Element.drainsFinal at hf
    cases hs : e.segs with
    | nil => simp [hs, ha] at hb
    | cons g gs => cases gs <;> simp [hs, ha] at hf
  exact Option.not_isSome_iff_eq_none.mp fun hl => hstate (h.awaiting.1.mpr hl)

/-- The element behind a packet that is not final. -/
theorem ElementFits.drain {e : Element} (h : ElementFits e) (hf : e.drainsFinal = false) :
    ElementFits { e with segs := e.segs.tail } where
  awaiting := h.awaiting
  complete hc := by
    rcases h.complete hc with ⟨hk, hd, hs⟩ | ⟨hk, hd, -⟩
    · exact .inl ⟨hk, hd, by simp [hs]⟩
    · refine .inr ⟨hk, hd, fun ht => ?_⟩
      have hc : e.state = .complete := hc
      unfold Element.drainsFinal at hf
      cases hs : e.segs with
      | nil => simp [hs] at hf
      | cons g gs =>
        have hg : gs = [] := by simpa [hs] using ht
        simp [hs, hg, hc, hd] at hf
  failed st hs := ⟨by simp [(h.failed st hs).1], (h.failed st hs).2⟩
  segments g hg := h.segments g (List.mem_of_mem_tail hg)
  stored := (stored_tail_le e).trans h.stored

section

variable {k : Nat} {s : State}

/-- An ACTIVE entry changes in what it has received and delivered. -/
theorem Working.setTag_active (h : Working k s) {t : PoolTag} {r r' : ActiveRec} (hr : getAt s.tags t = .active r)
    (hsame : r'.source = r.source ∧ r'.link = r.link ∧ r'.absorbed = r.absorbed ∧ r'.tag = r.tag ∧ r'.kind = r.kind ∧
      r'.length = r.length) (hle : r.received ≤ r'.received) : Working k (setTag t (.active r') s) := by
  refine h.frame_queues (h.order.setTag_active hr hsame hle) (by constructor <;> simp) ?_ ?_ fun n => by simp
  · have := activeTags_of_putAt (u := setTag t (.active r') s) rfl
    rw [hr] at this
    exact (Nat.add_right_cancel this).le
  · obtain ⟨-, hlink, habs, -, hkind, hlen⟩ := hsame
    refine entriesFit_of_putAt h.entries rfl fun q hq => ?_
    obtain rfl := TagState.active.inj hq
    have hfit := h.entries t r hr
    exact ⟨by rw [habs, hlink, hkind]; exact hfit.absorbed, by rw [hkind, hlen]; exact hfit.confirmed⟩

theorem Working.setSegs (h : Working k s) {l : SlotId} {e : Element} (he : getAt s.slots l = some e)
    (gs : List Segment) (hfit : ElementFits { e with segs := gs })
    (hm : ∀ t r, getAt s.tags t = .active r → r.link = some l → ({ e with segs := gs } : Element).stored ≤ r.received) :
    Working k (setSlot l (some { e with segs := gs }) s) :=
  h.frame_queues (h.order.setSegs he gs hfit hm) (by constructor <;> simp) le_rfl h.entries fun n => by simp

theorem Working.drop (h : Working k s) {n : SourceId} {l : SlotId} {e : Element} (hl : l ∈ getAt s.lists n)
    (he : getAt s.slots l = some e) (hlink : e.link = none) : Working k (lowerCount n (removeElement n l s)) :=
  h.frame_queues (h.order.drop hl he hlink) (by constructor <;> simp) le_rfl h.entries fun m =>
    count_lowerCount_le n s m

theorem Working.setDelivered (h : Working k s) (t : PoolTag) : Working k (setDelivered t s) := by
  unfold Machine.setDelivered
  split
  · next r hr => exact h.setTag_active hr ⟨rfl, rfl, rfl, rfl, rfl, rfl⟩ le_rfl
  · exact h

theorem Working.markDelivered (h : Working k s) (e : Element) : Working k (markDelivered e s) := by
  unfold Machine.markDelivered
  split
  · exact h.setDelivered _
  · exact h

theorem Working.afterDrain (h : Working k s) {n : SourceId} {l : SlotId} {e : Element} {b : Body}
    (hl : l ∈ getAt s.lists n) (he : getAt s.slots l = some e) (hb : e.drainBody = some b) :
    Working k (afterDrain n l e s) := by
  have hfit := h.order.elements l e he
  unfold Machine.afterDrain
  split
  · next hf => exact h.drop hl he (hfit.link_of_drainsFinal hb hf)
  · next hf =>
    rw [mapElement_of_some he]
    refine (h.setSegs he _ (hfit.drain (Bool.not_eq_true _ ▸ hf)) fun t r hr hk => ?_).markDelivered e
    obtain ⟨-, d, hd, hm⟩ := h.order.links.entry t r l hr hk
    obtain rfl := Option.some.inj (he.symm.trans hd)
    exact (stored_tail_le e).trans hm.stored

theorem Working.drainHead (h : Working k s) (hroom : s.trafficHasRoom = true) (n : SourceId) :
    Working k (drainHead n s) := by
  unfold Machine.drainHead
  split
  · exact h
  · next l hl =>
    split
    · exact h
    · next e he =>
      split
      · exact h
      · next b hb => exact (h.pushTraffic hroom _).afterDrain (List.mem_of_mem_head? hl) he hb

/-! ### The Response Matcher (chapter 4) -/

theorem setSlot_setSlot (l : SlotId) (x y : Option Element) (s : State) :
    setSlot l y (setSlot l x s) = setSlot l y s := by
  simp [setSlot, putAt_putAt_self]

theorem Working.endForwarded (h : Working k s) {t : PoolTag} {r : ActiveRec} (hr : getAt s.tags t = .active r)
    (habs : r.absorbed = false) : Working k (leaveActive t .free (endForwarded r s)) := by
  unfold Machine.endForwarded
  split
  · next hl => exact h.leave_unlinked hr hl habs rfl
  · next l hl => exact h.leave_removed hr hl rfl

/-- The final response of an entry, forwarded. -/
theorem Working.forwardFinal (h : Working k s) (hroom : s.trafficHasRoom = true) {t : PoolTag} {r : ActiveRec}
    (hr : getAt s.tags t = .active r) (habs : r.absorbed = false) (b : Body) :
    Working k (leaveActive t .free (Machine.endForwarded r (forwardBody r b s))) :=
  (h.pushTraffic hroom _).endForwarded hr habs

theorem Working.forwardData (h : Working k s) (hroom : s.trafficHasRoom = true) {t : PoolTag} {r : ActiveRec}
    (hr : getAt s.tags t = .active r) (habs : r.absorbed = false) (p : Arrived) : Working k (forwardData t r p s) := by
  unfold Machine.forwardData
  dsimp only
  split
  · exact h.forwardFinal hroom hr habs _
  · exact (h.pushTraffic hroom _).setTag_active hr ⟨rfl, rfl, rfl, rfl, rfl, rfl⟩ (Nat.le_add_right _ _)

/-- An element that waits with one more segment behind its own (R75). -/
theorem ElementFits.store {e : Element} (h : ElementFits e) (ha : e.state = .awaiting) {g : Segment}
    (hg : 1 ≤ g.words.length ∧ g.words.length ≤ 16) (hle : e.stored + g.words.length ≤ e.reservation) :
    ElementFits { e with segs := e.segs ++ [g] } where
  awaiting := h.awaiting
  complete hc := nomatch ha.symm.trans hc
  failed st hs := nomatch ha.symm.trans hs
  segments x hx := by
    rcases List.mem_append.mp hx with hx | hx
    · exact h.segments x hx
    · exact List.mem_singleton.mp hx ▸ hg
  stored := by rw [stored_append]; exact hle

theorem Matches.awaiting {t : PoolTag} {r : ActiveRec} {e : Element} (h : Matches t r e) (hf : ElementFits e) :
    e.state = .awaiting :=
  hf.awaiting.1.mpr (by rw [h.link]; rfl)

theorem Working.storeData (h : Working k s) {t : PoolTag} {r : ActiveRec} (hr : getAt s.tags t = .active r)
    {l : SlotId} (hl : r.link = some l) (hkind : r.kind = .read) {p : Arrived}
    (hp : 1 ≤ p.data.length ∧ p.data.length ≤ 16) (hle : r.received + p.data.length ≤ r.length) :
    Working k (storeData t r p s) := by
  obtain ⟨-, e, he, hm⟩ := h.order.links.entry t r l hr hl
  have hfit := h.order.elements l e he
  have hstate := hm.awaiting hfit
  have hsum : e.stored + p.segment.words.length ≤ r.received + p.data.length := Nat.add_le_add_right hm.stored _
  have hstore := hfit.store hstate (g := p.segment) hp (hm.reservation ▸ hsum.trans hle)
  unfold Machine.storeData mapLinked
  simp only [hl, mapElement_of_some he]
  split
  · rw [mapElement_of_some (by rw [getAt_slots_setSlot, if_pos rfl]), setSlot_setSlot]
    refine h.finish hr hl rfl he rfl ?_ le_rfl
    exact
      { awaiting := by simp
        complete := fun _ => .inr ⟨hm.kind.trans hkind, hfit.awaiting.2 hstate, by simp⟩
        failed := fun st hs => nomatch hs
        segments := hstore.segments
        stored := hstore.stored }
  · have htag := h.setTag_active (r' := r.receive p false) hr ⟨rfl, rfl, rfl, rfl, rfl, rfl⟩ (Nat.le_add_right _ _)
    refine htag.setSegs he _ hstore fun t' q hq hk => ?_
    obtain ⟨-, d, hd, hm'⟩ := h.order.links.entry t r l hr hl
    obtain ⟨-, d', hd', hq'⟩ := htag.order.links.entry t' q l hq hk
    obtain rfl := Option.some.inj (he.symm.trans hd')
    obtain rfl := Option.some.inj (hm.link.symm.trans hq'.link)
    rw [getAt_tags_setTag, if_pos rfl] at hq
    obtain rfl := TagState.active.inj hq
    rw [stored_append]
    exact hsum

theorem forwards_of_unlinked {r : ActiveRec} (h : r.link = none) (s : State) : s.forwards r = true := by
  simp [State.forwards, h]

theorem link_of_not_forwards {r : ActiveRec} (h : ¬ s.forwards r = true) : ∃ l, r.link = some l :=
  Option.ne_none_iff_exists'.mp fun hl => h (forwards_of_unlinked hl s)

theorem Working.takeData (h : Working k s) {t : PoolTag} {r : ActiveRec} (hr : getAt s.tags t = .active r)
    (hroom : s.forwards r = true → s.trafficHasRoom = true) {p : Arrived} (hk : p.kind = .data)
    (hp : 1 ≤ p.data.length ∧ p.data.length ≤ 16) (hc : p.inconsistent r = false) : Working k (takeData t r p s) := by
  have hkind : r.kind = .read := by
    cases hrk : r.kind with
    | read => rfl
    | cwrite => simp [Arrived.inconsistent, hk, hrk] at hc
  have hle : r.received + p.data.length ≤ r.length := by
    simp [Arrived.inconsistent, hk, hkind] at hc
    exact hc.1
  have habs : r.absorbed = false := Bool.eq_false_iff.mpr fun ha =>
    nomatch hkind.symm.trans ((h.entries t r hr).absorbed ha).2
  have hrep : ∀ u, u = (if p.poison then Machine.report .poisonedData (some .rs) (r.ident t) s else s) →
      Working k u ∧ u.tags = s.tags ∧ u.trafficHasRoom = s.trafficHasRoom := by
    rintro u rfl
    split
    · exact ⟨h.report _ _ _, by simp, by simp [State.trafficHasRoom]⟩
    · exact ⟨h, rfl, rfl⟩
  obtain ⟨h1, htags, hr1⟩ := hrep _ rfl
  unfold Machine.takeData
  dsimp only
  split
  · next hf => exact h1.forwardData (hr1.trans (hroom hf)) (htags ▸ hr) habs p
  · next hf =>
    obtain ⟨l, hl⟩ := link_of_not_forwards hf
    exact h1.storeData (htags ▸ hr) hl hkind hp hle

/-- A CWRITE's element has nothing stored. -/
theorem segs_of_no_length {e : Element} (h : ElementFits e) (hres : e.reservation = 0) : e.segs = [] := by
  have hs := h.stored
  rw [hres] at hs
  cases hseg : e.segs with
  | nil => rfl
  | cons g gs =>
    have := (h.segments g (by simp [hseg])).1
    simp [Element.stored, hseg, Segment.count] at hs
    simp [hs] at this

theorem Working.takeDone (h : Working k s) {t : PoolTag} {r : ActiveRec} (hr : getAt s.tags t = .active r)
    (hroom : r.absorbed = false → s.forwards r = true → s.trafficHasRoom = true) (hkind : r.kind = .cwrite) :
    Working k (takeDone t r s) := by
  unfold Machine.takeDone
  split
  · next habs => exact h.leave_absorbed hr habs rfl
  · next habs =>
    rw [Bool.not_eq_true] at habs
    split
    · next hf => exact h.forwardFinal (hroom habs hf) hr habs _
    · next hf =>
      obtain ⟨l, hl⟩ := link_of_not_forwards hf
      obtain ⟨-, e, he, hm⟩ := h.order.links.entry t r l hr hl
      have hfit := h.order.elements l e he
      simp only [mapLinked, hl, mapElement_of_some he]
      refine h.finish hr hl rfl he rfl ?_ le_rfl
      exact
        { awaiting := by simp
          complete := fun _ => .inl ⟨hm.kind.trans hkind, rfl,
            segs_of_no_length (e := e) hfit (hm.reservation.trans ((h.entries t r hr).confirmed hkind))⟩
          failed := fun st hs => nomatch hs
          segments := hfit.segments
          stored := hfit.stored }

theorem Working.takeFail (h : Working k s) {t : PoolTag} {r : ActiveRec} (hr : getAt s.tags t = .active r)
    (hroom : r.absorbed = false → s.forwards r = true → s.trafficHasRoom = true) (st : Status) :
    Working k (takeFail t r st s) := by
  unfold Machine.takeFail
  split
  · next habs => exact (h.report _ _ _).leave_absorbed (by simpa using hr) habs rfl
  · next habs =>
    rw [Bool.not_eq_true] at habs
    split
    · next hf => exact h.forwardFinal (hroom habs hf) hr habs _
    · next hf =>
      obtain ⟨l, hl⟩ := link_of_not_forwards hf
      obtain ⟨-, e, he, hm⟩ := h.order.links.entry t r l hr hl
      simp only [mapLinked, hl, mapElement_of_some he]
      exact h.finish hr hl rfl he rfl (elementFits_fail e st) (Nat.zero_le _)

theorem Working.takeConsistent (h : Working k s) {t : PoolTag} {r : ActiveRec} (hr : getAt s.tags t = .active r)
    {p : Arrived} (hroom : r.absorbed = false → s.forwards r = true → s.trafficHasRoom = true)
    (hp : p.kind = .data → 1 ≤ p.data.length ∧ p.data.length ≤ 16) (hc : p.inconsistent r = false) :
    Working k (takeConsistent t r p s) := by
  unfold Machine.takeConsistent
  split
  · next hk =>
    have habs : r.absorbed = false := Bool.eq_false_iff.mpr fun ha => by
      have := ((h.entries t r hr).absorbed ha).2
      simp [Arrived.inconsistent, hk, this] at hc
    exact h.takeData hr (hroom habs) hk (hp hk) hc
  · next hk =>
    refine h.takeDone hr hroom ?_
    cases hrk : r.kind with
    | read => simp [Arrived.inconsistent, hk, hrk] at hc
    | cwrite => rfl
  · split
    · exact h.takeFail hr hroom _
    · exact h

theorem Working.handlePacket (h : Working k s) {p : Arrived}
    (hp : p.kind = .data → 1 ≤ p.data.length ∧ p.data.length ≤ 16)
    (hroom : s.needsRoom p = true → s.trafficHasRoom = true) : Working k (handlePacket p s) := by
  unfold Machine.handlePacket
  split
  · exact h.report _ _ _
  · next t ht =>
    split
    · exact h.report _ _ _
    · next q hq =>
      unfold takeLate
      dsimp only
      split
      · exact (h.report _ _ _).setTag_inactive (by simp [hq, TagState.isActive]) rfl
      · exact h.report _ _ _
    · next r hr =>
      split
      · exact (h.report _ _ _).terminate t _ _
      · next hc =>
        rw [Bool.not_eq_true] at hc
        refine h.takeConsistent hr (fun habs hf => hroom ?_) hp hc
        simp [State.needsRoom, State.tagStateOf, ht, hr, hc, habs, hf]

theorem needsRoom_congr {u : State} (ht : u.tags = s.tags) (hs : u.slots = s.slots) (hl : u.lists = s.lists)
    (p : Arrived) : u.needsRoom p = s.needsRoom p := by
  have hd : u.deliveringHead = s.deliveringHead := by
    funext n l
    rw [State.deliveringHead, State.headSlot, State.element, hs, hl]
    rfl
  simp only [State.needsRoom, State.tagStateOf, State.forwards, ht, hd]

/-- The oldest packet leaves the ingress buffer and its slot's credit goes back (R67). -/
theorem Working.popIngress (h : Working k s) {p : Arrived} {rest : List Arrived} (hi : s.ingress = p :: rest) :
    Working k (Machine.returnRsCredits 1 { s with ingress := rest }) := by
  refine h.frame ?_ (by simp) (by simp)
  constructor
  case ingress => simp [hi, List.suffix_cons]
  all_goals simp

theorem Working.matcherTake (h : Working k s) (hroom : s.matcherNeedsRoom = true → s.trafficHasRoom = true) :
    Working k (matcherTake s) := by
  unfold Machine.matcherTake
  split
  · exact h
  · next p rest hi =>
    refine (h.popIngress hi).handlePacket (h.arrived p (by simp [hi])) fun hn => ?_
    rw [needsRoom_congr (s := s) (by simp) (by simp) (by simp)] at hn
    simpa [State.trafficHasRoom] using hroom (by simpa [State.matcherNeedsRoom, hi] using hn)

end

end Sys2Proof.Machine
end

section
/-! PROOF. The room distribution and a freed place, and the issue at a step's end. -/

namespace Sys2Proof.Machine

/-! ### The producers (R131) -/

section

variable {k : Nat} {s : State}

/-- Nothing waits. -/
theorem Working.of_none_waiting (h : Working k s) (hb : s.backlog = []) (hm : s.malformedList = []) : Working 0 s :=
  { h with waits := ⟨fun _ => hb, fun _ => hm⟩ }

/-- No place is free. -/
theorem Working.of_full (h : Working k s) (hf : s.trafficQueue.length = 32) : Working 0 s :=
  { h with waits := ⟨fun hl => by omega, fun hl => by omega⟩ }

/-- Answers leave the backlog. -/
theorem Working.shrinkBacklog (h : Working k s) {b : List BacklogAnswer} (hb : b.length ≤ s.backlog.length) :
    Working k { s with backlog := b } :=
  { bounded := { h.bounded with backlog := (Nat.add_le_add_right hb _).trans h.bounded.backlog }
    waits := ⟨fun hl => List.eq_nil_of_length_eq_zero (by have := h.waits.backlog hl; simp_all), h.waits.malformed⟩
    order := h.order.frame ⟨rfl, rfl, rfl⟩ fun _ => rfl
    entries := h.entries
    head := h.head
    arrived := h.arrived }

theorem Working.placeAnswer (h : Working k s) (hroom : s.trafficHasRoom = true) : Working k (placeAnswer s) := by
  unfold Machine.placeAnswer
  split
  · exact (h.pushTraffic hroom _).removeHead
  · exact h

theorem Working.placeBacklog (h : Working k s) (hroom : s.trafficHasRoom = true) : Working k (placeBacklog s) := by
  unfold Machine.placeBacklog
  split
  · exact h
  · next a rest hb => exact (h.shrinkBacklog (b := rest) (by simp [hb])).pushTraffic hroom _

/-- The oldest answer leaves the Malformed Answer List. -/
theorem Working.popMalformed (h : Working k s) {a : MalformedAnswer} {rest : List MalformedAnswer}
    (hm : s.malformedList = a :: rest) : Working k { s with malformedList := rest } := by
  have hle : ∀ p, ({ s with malformedList := rest } : State).malformedOf p ≤ s.malformedOf p := fun p => by
    unfold State.malformedOf
    rw [hm]
    exact List.Sublist.countP_le (List.sublist_cons_self _ _)
  exact
    { bounded :=
        { h.bounded with
          ordinary := (Nat.add_le_add_left (hle _) _).trans h.bounded.ordinary
          management := (Nat.add_le_add_left (hle _) _).trans h.bounded.management
          noReturn := fun x hx => h.bounded.noReturn x (hm ▸ List.mem_cons_of_mem _ hx) }
      waits := ⟨h.waits.backlog, fun hl => nomatch hm.symm.trans (h.waits.malformed hl)⟩
      order := h.order.frame ⟨rfl, rfl, rfl⟩ fun _ => rfl
      entries := h.entries
      head := h.head
      arrived := h.arrived }

theorem Working.placeMalformed (h : Working k s) (hroom : s.trafficHasRoom = true) : Working k (placeMalformed s) := by
  unfold Machine.placeMalformed
  split
  · exact h
  · next a rest hm => exact ((h.popMalformed hm).pushTraffic hroom _).returnRqCredits _ _

theorem Working.serve (h : Working k s) (hroom : s.trafficHasRoom = true) (p : Producer) : Working k (serve p s) := by
  cases p with
  | malformedList => exact h.placeMalformed hroom
  | dispatch => exact h.placeAnswer hroom
  | backlog => exact h.placeBacklog hroom
  | matcher => exact h.matcherTake fun _ => hroom
  | drain n => exact h.drainHead hroom n

theorem Working.placeDirect (h : Working k s) (p : Producer) : Working k (placeDirect p s) := by
  unfold Machine.placeDirect
  split
  · next hr => exact h.serve (Bool.and_eq_true_iff.mp hr).1 p
  · exact h

theorem Working.serveAt (h : Working k s) (hroom : s.trafficHasRoom = true) (p : Fin 36) : Working k (serveAt p s) :=
  (h.serve hroom (Producer.at p)).frame (by constructor <;> simp [Machine.serveAt]) (by simp [Machine.serveAt])
    (by simp [Machine.serveAt])

theorem Working.distribute (h : Working k s) (before : State) : Working k (distribute before s) := by
  refine Working.foldl (fun s p hs => ?_) h _
  split
  · next hr => exact hs.serveAt (Bool.and_eq_true_iff.mp hr).1 p
  · exact hs

/-! ### A producer that is ready places one packet -/

theorem handlePacket_length {p : Arrived} (hn : s.needsRoom p = true) :
    (handlePacket p s).trafficQueue.length = s.trafficQueue.length + 1 := by
  unfold State.needsRoom State.tagStateOf at hn
  unfold handlePacket
  cases hp : p.pool with
  | none => simp [hp] at hn
  | some t =>
    cases hr : getAt s.tags t with
    | free => simp [hp, hr] at hn
    | quarantined q => simp [hp, hr] at hn
    | active r =>
      simp only [hp, hr, Bool.and_eq_true, Bool.not_eq_true'] at hn
      obtain ⟨⟨hc, habs⟩, hf⟩ := hn
      simp only [hr, hc, Bool.false_eq_true, if_false, takeConsistent]
      cases hk : p.kind with
      | data =>
        simp only [takeData, forwardData, forwardBody, hf, if_true]
        split <;> split <;> simp [pushTraffic]
      | done => simp [takeDone, habs, hf, forwardBody, pushTraffic]
      | fail =>
        cases hst : responderStatus p.status with
        | none => simp [Arrived.inconsistent, hk, hst] at hc
        | some st => simp [takeFail, habs, hf, forwardBody, pushTraffic]

theorem matcherTake_length (hn : s.matcherNeedsRoom = true) :
    (matcherTake s).trafficQueue.length = s.trafficQueue.length + 1 := by
  unfold State.matcherNeedsRoom at hn
  unfold matcherTake
  split
  · next hi => simp [hi] at hn
  · next p rest hi =>
    rw [handlePacket_length]
    · simp
    · rw [needsRoom_congr (s := s) (by simp) (by simp) (by simp)]
      simpa [hi] using hn

theorem drainHead_length {n : SourceId} (hn : s.drains n = true) :
    (drainHead n s).trafficQueue.length = s.trafficQueue.length + 1 := by
  unfold State.drains at hn
  unfold drainHead
  cases hl : s.headSlot n with
  | none => simp [hl] at hn
  | some l =>
    cases he : s.element l with
    | none => simp [hl, he] at hn
    | some e =>
      obtain ⟨b, hb⟩ := Option.isSome_iff_exists.mp (show e.drainBody.isSome = true by simpa [hl, he] using hn)
      simp [he, hb, pushTraffic]

theorem serve_length {p : Producer} (hr : s.ready p = true) :
    (serve p s).trafficQueue.length = s.trafficQueue.length + 1 := by
  cases p with
  | malformedList =>
    cases hm : s.malformedList with
    | nil => simp [State.ready, hm] at hr
    | cons a rest => simp [serve, placeMalformed, hm, pushTraffic]
  | dispatch =>
    simp only [State.ready, State.answers] at hr
    simp only [serve, placeAnswer]
    split at hr
    · next hq hp => simp [hq, hp, pushTraffic]
    · exact nomatch hr
  | backlog =>
    cases hb : s.backlog with
    | nil => simp [State.ready, hb] at hr
    | cons a rest => simp [serve, placeBacklog, hb, pushTraffic]
  | matcher => exact matcherTake_length hr
  | drain n => exact drainHead_length (Bool.and_eq_true_iff.mp hr).2

/-- The one place that a transmission freed is taken, or no producer waits for it (R131). -/
theorem Working.givePlace (h : Working k s) (hlen : s.trafficQueue.length = 31) : Working 0 (givePlace s) := by
  have hroom : s.trafficHasRoom = true := (trafficHasRoom_iff s).mpr (by omega)
  unfold Machine.givePlace
  split
  · next p hp =>
    refine (h.serveAt hroom p).of_full ?_
    have := serve_length (s := s) (p := Producer.at p) (by simpa using List.find?_some hp)
    exact this.trans (by omega)
  · next hp =>
    have hnone : ∀ p : Fin 36, s.ready (Producer.at p) = false := fun p => by
      have hmem : p ∈ ringFrom s.roomPointer :=
        List.mem_map.mpr ⟨p - s.roomPointer, List.mem_finRange _, by simp⟩
      simpa using List.find?_eq_none.mp hp p hmem
    exact h.of_none_waiting (by simpa [State.ready, Producer.at] using hnone 2)
      (by simpa [State.ready, Producer.at] using hnone 0)

end

/-! ### Transmission (R132) -/

theorem Working.sendRq {k : Nat} {s : State} (h : Working k s) (ws : List Word) : Working k (sendRq ws s) :=
  h.frame (by constructor <;> simp [Machine.sendRq]) (by simp [Machine.sendRq]) (by simp [Machine.sendRq])

/-- The head of the Traffic Queue leaves it. -/
theorem Working.popTraffic {s : State} (h : Working 0 s) {r : Response} {rest : List Response}
    (ht : s.trafficQueue = r :: rest) : Working 1 { s with trafficQueue := rest } := by
  have hlen : s.trafficQueue.length = rest.length + 1 := by simp [ht]
  have htr := h.bounded.traffic
  have hrest : rest.length ≤ 32 := by omega
  exact
    { bounded := { h.bounded with traffic := hrest }
      waits := ⟨fun hl => h.waits.backlog (by rw [hlen]; exact hl),
        fun hl => h.waits.malformed (by rw [hlen]; exact hl)⟩
      order := h.order.frame ⟨rfl, rfl, rfl⟩ fun _ => rfl
      entries := h.entries
      head := h.head
      arrived := h.arrived }

theorem Working.transmitTraffic {s : State} (h : Working 0 s) : Working 0 (transmitTraffic s) := by
  unfold Machine.transmitTraffic
  split
  · exact h
  · next r rest ht =>
    have h1 := (h.popTraffic ht).sendRq (packResponse r)
    dsimp only
    split
    · next hroom =>
      have hl := (trafficHasRoom_iff s).mp hroom
      exact h1.of_none_waiting (h.waits.backlog hl) (h.waits.malformed hl)
    · next hroom =>
      refine h1.givePlace ?_
      have hfull := mt (trafficHasRoom_iff s).mpr hroom
      have := h.bounded.traffic
      show rest.length = 31
      rw [ht] at hfull this
      simp only [List.length_cons] at hfull this
      omega

theorem Working.transmit {s : State} (h : Working 0 s) : Working 0 (transmit s) := by
  unfold Machine.transmit
  split
  · next c a _ =>
    exact (h.frame (u := { s with alert := s.alert.sent c })).sendRq _
  · split
    · next r rest hm =>
      exact (h.frame (u := { s with mgmtSlots := rest }) (by constructor <;> simp [hm]) (by simp) (by simp)).sendRq _
    · exact h.transmitTraffic

/-! ### Issue (R37 to R41) -/

theorem freeTag_some {s : State} {t : PoolTag} (h : s.freeTag = some t) :
    s.backlog = [] ∧ (getAt s.tags t).isActive = false := by
  unfold State.freeTag at h
  split at h
  · next hb =>
    refine ⟨List.isEmpty_iff.mp hb, ?_⟩
    have := List.find?_some h
    cases hx : getAt s.tags t <;> simp_all [TagState.isFree, TagState.isActive]
  · exact nomatch h

theorem freeSlot_some {s : State} {l : SlotId} (h : s.freeSlot = some l) : getAt s.slots l = none := by
  simpa [State.element] using List.find?_some h

/-- What the resources of a grant are (R37). -/
theorem grant_cases {s : State} {c : Classified} {g : Grant} (h : s.grant c = some g) :
    (c.cls = .plainPosted ∧ g = .plain) ∨
      ∃ t, c.cls ≠ .plainPosted ∧ s.freeTag = some t ∧
        ((c.ordered = false ∧ g = .tag t) ∨
          ∃ l, c.ordered = true ∧ s.freeSlot = some l ∧ s.reservedWords + c.reservation ≤ 512 ∧
            g = .tagAndSlot t l) := by
  unfold State.grant at h
  split at h
  · exact nomatch h
  split at h
  · next hc => exact .inl ⟨hc, (Option.some.inj h).symm⟩
  next hc =>
  split at h
  · exact nomatch h
  next t ht =>
  refine .inr ⟨t, hc, ht, ?_⟩
  split at h
  · next ho =>
    split at h
    · exact nomatch h
    next l hl =>
    split at h
    · next hw => exact .inr ⟨l, ho, hl, hw, (Option.some.inj h).symm⟩
    · exact nomatch h
  · next ho => exact .inl ⟨Bool.not_eq_true _ ▸ ho, (Option.some.inj h).symm⟩

theorem issuable_some {s : State} {req : Request} {c : Classified} {g : Grant} (h : s.issuable = some (req, c, g)) :
    ∃ w rest, s.forwardQueue = w :: rest ∧ s.headPhase = .classified c ∧ w.req = req ∧ s.grant c = some g := by
  unfold State.issuable at h
  split at h
  · next w rest c' hq hp =>
    split at h
    · obtain ⟨g', hg, he⟩ := Option.map_eq_some_iff.mp h
      simp only [Prod.mk.injEq] at he
      obtain ⟨rfl, rfl, rfl⟩ := he
      exact ⟨w, rest, hq, hp, rfl, hg⟩
    · exact nomatch h
  · exact nomatch h

/-- The queues as they were, and the entries, elements and counts in agreement. -/
theorem Settled.frame {s u : State} (h : Settled s) (hq : QueueFrame s u) (hb : u.backlog.length + u.activeTags ≤ 64)
    (ho : OrderSound u) : Settled u where
  bounded := h.bounded.frame hq hb
  waits := ⟨by rw [hq.trafficQueue, hq.backlog]; exact h.waits.backlog,
    by rw [hq.trafficQueue, hq.malformedList]; exact h.waits.malformed⟩
  order := ho

/-- The head leaves with its request sent, its resources taken in `u`. -/
theorem Working.sendHead {s u : State} (h : Working 0 s) (hq : QueueFrame s u)
    (hb : u.backlog.length + u.activeTags ≤ 64) (ho : OrderSound u) (req : Request) (c : Classified) (tag : BitVec 8) :
    Settled (Machine.removeHead (sendRequest req c tag u)) := by
  have ha : (Machine.removeHead (sendRequest req c tag u)).activeTags = u.activeTags := activeTags_congr (by simp)
  refine h.removeHead.settled.frame ?_ (by rw [ha]; simpa using hb) (ho.frame (by simp) (by simp))
  constructor
  case forwardQueue => simp [Machine.removeHead, hq.forwardQueue]
  case headPhase => simp [Machine.removeHead]
  case malformedList => simpa using hq.malformedList
  case mgmtQueue => simpa using hq.mgmtQueue
  case trafficQueue => simpa using hq.trafficQueue
  case ingress => simpa using hq.ingress
  case mgmtSlots => simpa using hq.mgmtSlots
  case records => simpa using hq.records
  case rqCredits => simpa using hq.rqCredits
  case rsCredits => simpa [sendRequest] using (Nat.sub_le _ _).trans hq.rsCredits
  case backlog => simpa using hq.backlog

/-- A tag taken for an issue finds the backlog empty and another tag not ACTIVE (R2). -/
theorem backlog_of_freeTag {s u : State} {t : PoolTag} {x : TagState} (h : s.freeTag = some t)
    (hb : u.backlog = s.backlog) (ht : u.tags = putAt s.tags t x) : u.backlog.length + u.activeTags ≤ 64 := by
  obtain ⟨hnil, hfree⟩ := freeTag_some h
  have hn := activeTags_of_putAt ht
  have hlt := activeTags_lt hfree
  have hx : x.isActive.toNat ≤ 1 := by cases x.isActive <;> simp
  rw [hb, hnil, hfree] at *
  simp only [List.length_nil, Bool.toNat_false] at *
  omega

theorem Working.issueWith {s : State} (h : Working 0 s) {req : Request} {c : Classified} {g : Grant}
    (hi : s.issuable = some (req, c, g)) : Settled (issueWith req c s g) := by
  obtain ⟨w, rest, hq, hp, rfl, hg⟩ := issuable_some hi
  obtain ⟨hplan, hcount⟩ := h.head w rest c hq hp
  rcases grant_cases hg with ⟨hcls, rfl⟩ | ⟨t, hcls, ht, ⟨hord, rfl⟩ | ⟨l, hord, hl, hroom, rfl⟩⟩
  · exact h.sendHead (u := s) (by constructor <;> simp) h.bounded.backlog h.order w.req c 0#8
  · have ho := h.order.issue_unlinked (t := t) (r := s.issueRecord w.req c none) (freeTag_some ht).2 rfl fun ha => by
      refine hcount ?_
      cases hc : c.cls <;> simp_all [State.issueRecord]
    refine h.sendHead (u := countIssue w.req c _) (by constructor <;> simp) ?_ ?_ w.req c (tagBits t)
    · exact backlog_of_freeTag ht (by simp) (by simp only [countIssue_keeps]; rfl)
    · refine ho.frame (by simp [setTag]; split <;> simp) fun n => ?_
      cases hc : c.cls with
      | plainPosted => exact absurd hc hcls
      | nonPosted => simp [countIssue, hc, State.issueRecord, setTag, raiseCount, mapCount]
      | absorbed => simp [countIssue, hc, State.issueRecord]
  · have hnp := hplan.ordered hord
    have ho := h.order.issue_linked (t := t) (l := l) (r := s.issueRecord w.req c (some l))
      (e := issueElement w.req c t) (freeTag_some ht).2 (freeSlot_some hl) rfl (by simp [State.issueRecord, hnp])
      ⟨rfl, rfl, rfl, by simp [issueElement, State.issueRecord, hplan.reservation, hord],
        by simp [issueElement, Element.stored]⟩
      (by constructor <;> simp [issueElement, Element.stored]) hroom (hcount hnp)
    refine h.sendHead (u := countIssue w.req c _) (by constructor <;> simp) ?_ ?_ w.req c (tagBits t)
    · exact backlog_of_freeTag ht (by simp) (by simp only [countIssue_keeps, appendElement_keeps]; rfl)
    · rw [countIssue, if_pos hnp]
      exact ho

theorem Working.issueNow {s : State} (h : Working 0 s) : Settled (issueNow s) := by
  unfold Machine.issueNow
  split
  · next hi => exact h.issueWith hi
  · exact h.settled

theorem Working.issueAfter {s : State} (h : Working 0 s) (before : State) : Settled (issueAfter before s) := by
  unfold Machine.issueAfter
  split
  · exact h.issueNow
  · exact h.settled

end Sys2Proof.Machine
end

section
/-! PROOF. The teardowns: link down, HALT, FLUSH_SOURCE and SOFT_RESET keep `Working`. -/

namespace Sys2Proof.Machine

/-! ### What a teardown leaves ACTIVE, and which counts it clears -/

theorem active_of_terminate {t : PoolTag} {ans : Option Status} {dest : TagDest} {s : State} {g : PoolTag}
    {r : ActiveRec} (h : getAt (terminate t ans dest s).tags g = .active r) : getAt s.tags g = .active r ∧ g ≠ t := by
  unfold terminate at h
  split at h
  · next q hq =>
    rw [leaveActive_tags, getAt_putAt, show (answerEntry q ans s).tags = s.tags by simp] at h
    split at h
    · have := destState_inactive s q dest
      rw [h] at this
      exact nomatch this
    · next hne => exact ⟨h, fun e => hne e.symm⟩
  · next hn => exact ⟨h, fun e => hn r (e ▸ h)⟩

/-- One tag's turn in a termination of all that `which` picks. -/
def terminatePicked (which : ActiveRec → Bool) (ans : Option Status) (dest : TagDest) (s : State) (t : PoolTag) :
    State :=
  match getAt s.tags t with
  | .active r => if which r then terminate t ans dest s else s
  | _ => s

theorem terminateAll_eq_foldl (which : ActiveRec → Bool) (ans : Option Status) (dest : TagDest) (s : State) :
    terminateAll which ans dest s = (List.finRange 64).foldl (terminatePicked which ans dest) s := rfl

theorem active_of_terminatePicked {which : ActiveRec → Bool} {ans : Option Status} {dest : TagDest} {s : State}
    {t g : PoolTag} {r : ActiveRec} (h : getAt (terminatePicked which ans dest s t).tags g = .active r) :
    getAt s.tags g = .active r ∧ (g = t → which r = false) := by
  unfold terminatePicked at h
  split at h
  · next q hq =>
    split at h
    · obtain ⟨hr, hne⟩ := active_of_terminate h
      exact ⟨hr, fun e => absurd e hne⟩
    · next hnw =>
      refine ⟨h, fun e => ?_⟩
      rw [e, hq] at h
      exact TagState.active.inj h ▸ Bool.not_eq_true _ ▸ hnw
  · next hn => exact ⟨h, fun e => absurd (e ▸ h) (hn r)⟩

/-- An entry that is ACTIVE after a termination of those that `which` picks is one that it does not pick. -/
theorem active_of_terminateAll {which : ActiveRec → Bool} {ans : Option Status} {dest : TagDest} {s : State}
    {g : PoolTag} {r : ActiveRec} (h : getAt (terminateAll which ans dest s).tags g = .active r) :
    getAt s.tags g = .active r ∧ which r = false := by
  suffices H : ∀ (l : List PoolTag) (s : State), getAt (l.foldl (terminatePicked which ans dest) s).tags g = .active r →
      getAt s.tags g = .active r ∧ (g ∈ l → which r = false) by
    rw [terminateAll_eq_foldl] at h
    obtain ⟨hr, hw⟩ := H (List.finRange 64) s h
    exact ⟨hr, hw (List.mem_finRange g)⟩
  intro l
  induction l with
  | nil => exact fun s hs => ⟨hs, fun hg => nomatch hg⟩
  | cons t l ih =>
    intro s hs
    obtain ⟨hr, hw⟩ := ih _ hs
    obtain ⟨hr, hwt⟩ := active_of_terminatePicked hr
    exact ⟨hr, fun hg => (List.mem_cons.mp hg).elim hwt hw⟩

theorem active_of_freeQuarantined {s : State} {g : PoolTag} {r : ActiveRec}
    (h : getAt (freeQuarantined s).tags g = .active r) : getAt s.tags g = .active r := by
  unfold freeQuarantined at h
  revert h
  generalize List.finRange 64 = l
  refine List.foldlRecOn (motive := fun u : State => getAt u.tags g = .active r → getAt s.tags g = .active r) l _
    (fun hr => hr) fun u hu t _ hr => hu ?_
  split at hr
  · rw [getAt_tags_setTag] at hr
    split at hr
    · exact nomatch hr
    · exact hr
  · exact hr

theorem count_clearCounts (s : State) (n : SourceId) : (getAt (clearCounts s).sources n).count = 0 := by
  suffices H : ∀ (l : List SourceId) (s : State),
      (getAt (l.foldl (fun s m => mapCount m (fun _ => 0) s) s).sources n).count =
        if n ∈ l then 0 else (getAt s.sources n).count by
    exact (H (List.finRange 32) s).trans (if_pos (List.mem_finRange n))
  intro l
  induction l with
  | nil => exact fun s => rfl
  | cons m l ih =>
    intro s
    rw [List.foldl_cons, ih, count_mapCount]
    by_cases hm : m = n
    · simp [hm]
    · simp [hm, Ne.symm hm]

/-- The counts and the lists cleared, when nothing but absorbed entries is left. -/
theorem Working.clear {k : Nat} {s : State} (h : Working k s)
    (ha : ∀ t r, getAt s.tags t = .active r → r.absorbed = true) : Working k (clearLists (clearCounts s)) := by
  refine h.frame_queues ?_ (by constructor <;> simp) (activeTags_congr (by simp)).le (by simpa using h.entries)
    fun n => by simp [count_clearCounts]
  refine orderSound_of_cleared (fun n => by simp [clearLists]) (fun l => by simp [clearLists]) (fun t r hr => ?_)
    fun n => by simp [count_clearCounts]
  have hr : getAt s.tags t = .active r := by simpa using hr
  exact ⟨ha t r hr, ((h.entries t r hr).absorbed (ha t r hr)).1⟩

/-! ### RQ and RS link down (R134, R136) -/

theorem Working.linkDownHead {k : Nat} {s : State} (h : Working k s) (req : Request) (cls : IssueClass) :
    Working k (linkDownHead req cls s) := by
  cases cls with
  | nonPosted => exact h.setPhase fun c hc => nomatch hc
  | absorbed => exact (h.report _ _ _).removeHead
  | plainPosted => exact (h.report _ _ _).removeHead

theorem Working.linkDownClassified {k : Nat} {s : State} (h : Working k s) : Working k (linkDownClassified s) := by
  unfold Machine.linkDownClassified
  split
  · split
    · exact h.linkDownHead _ _
    · exact h
  · exact h

/-- The Traffic Queue and the Malformed Answer List emptied; the backlog waits beside free places until it goes too. -/
theorem Working.clearTraffic {k : Nat} {s : State} (h : Working k s) :
    Working 32 { s with trafficQueue := [], malformedList := [] } where
  bounded :=
    { h.bounded with
      ordinary := (Nat.add_le_add_left (Nat.zero_le _) _).trans h.bounded.ordinary
      management := (Nat.add_le_add_left (Nat.zero_le _) _).trans h.bounded.management
      noReturn := fun a ha => nomatch ha
      traffic := Nat.zero_le _ }
  waits := ⟨fun hl => absurd hl (by omega), fun hl => absurd hl (by omega)⟩
  order := h.order.frame ⟨rfl, rfl, rfl⟩ fun _ => rfl
  entries := h.entries
  head := h.head
  arrived := h.arrived

theorem Working.rqTeardown {s : State} (h : Working 0 s) : Working 0 (rqTeardown s) := by
  have h1 : Working 32 { s with
      rqLink := .down, rqCredits := 0, forwardQueue := [], headPhase := .new, mgmtQueue := [], mgmtSlots := [],
      trafficQueue := [], malformedList := [] } :=
    (h.clearTraffic.frame_forward (q := []) (p := .new) (Nat.zero_le _) (fun _ hc => nomatch hc)).frame
  have h2 := (h1.terminateAll ActiveRec.counted none .quarantined).clear fun t r hr => by
    simpa [ActiveRec.counted] using (active_of_terminateAll hr).2
  have h3 := (h2.shrinkBacklog (b := []) (Nat.zero_le _)).of_none_waiting rfl (by simp)
  exact h3.frame (by constructor <;> simp [Machine.rqTeardown]) (by simp [Machine.rqTeardown])
    (by simp [Machine.rqTeardown])

theorem Working.rqDown {s : State} (h : Working 0 s) : Working 0 (rqDown s) := h.rqTeardown.report _ _ _

theorem Working.rsDown {s : State} (h : Working 0 s) : Working 0 (rsDown s) := by
  have h1 : Working 0 { s with rsLink := .down, rsCredits := 0, ingress := [] } :=
    h.frame
  have h2 := h1.terminateAll (fun _ => true) (some .linkDown) .free
  exact (h2.freeQuarantined.linkDownClassified.report _ _ _).distribute s

/-! ### HALT (R16, R43) -/

theorem haltPhase_not_classified (q : List Waiting) (p : HeadPhase) (c : Classified) :
    haltPhase q p ≠ .classified c := by
  cases q with
  | nil => exact fun h => nomatch h
  | cons w q =>
    unfold haltPhase
    dsimp only
    split
    · exact fun h => nomatch h
    · cases p <;> exact fun h => nomatch h

theorem Working.haltTeardown {s : State} (h : Working 0 s) : Working 0 (haltTeardown s) := by
  have h1 : Working 0 { s with opState := .halted } := h.frame
  refine Working.distribute (Working.returnRqCredits ((h1.terminateAll _ _ _).frame_forward ?_ ?_) _ _) s
  · simpa [markHalted] using List.length_filter_le _ _
  · exact fun c hc => absurd hc (haltPhase_not_classified _ _ _)

theorem Working.takeHalt {s : State} (h : Working 0 s) : Working 0 (takeHalt s) := by
  have h1 : Working 0 { s with haltRequested := false } := h.frame
  unfold Machine.takeHalt
  split
  · dsimp only
    split
    · exact h1
    · exact h1.haltTeardown
  · exact h

/-! ### FLUSH_SOURCE (R17, R44, R100) -/

theorem flushPhase_classified {n : SourceId} {q : List Waiting} {p : HeadPhase} {c : Classified}
    (h : flushPhase n q p = .classified c) :
    flushPhase n q p = p ∧ (q.filter fun w => decide (w.req.source ≠ n)).head? = q.head? := by
  cases q with
  | nil => exact nomatch h
  | cons w q =>
    unfold flushPhase at h ⊢
    dsimp only at h ⊢
    split at h
    · exact nomatch h
    · next hw => exact ⟨if_neg hw, by simp [hw]⟩

theorem Working.flushQueue {k : Nat} {s : State} (h : Working k s) (n : SourceId) : Working k (flushQueue n s) :=
  (h.frame_forward (List.length_filter_le _ _) fun _ hc => flushPhase_classified hc).returnRqCredits _ _

/-- The elements of source `n`'s list, none of them linked to, leave one by one: what remains agrees with a state `w`
whose count of `n` has gone down with them. -/
theorem OrderSound.flush {n : SourceId} {ls : List SlotId} {s v : State} (h : OrderSound v)
    (hsame : v.tags = s.tags ∧ v.slots = s.slots ∧ v.lists = s.lists) (hls : getAt v.lists n = ls)
    (hlink : ∀ l e, l ∈ ls → getAt v.slots l = some e → e.link = none) :
    ∃ w u, u = ls.foldl (fun s l => removeElement n l s) s ∧ OrderSound w ∧
      (u.tags = w.tags ∧ u.slots = w.slots ∧ u.lists = w.lists) ∧ getAt w.lists n = [] ∧ w.tags = v.tags ∧
      ∀ m, n ≠ m → (getAt w.sources m).count = (getAt v.sources m).count := by
  obtain ⟨ht, hs, hl⟩ := hsame
  induction ls generalizing s v with
  | nil => exact ⟨v, s, rfl, h, ⟨ht.symm, hs.symm, hl.symm⟩, hls, rfl, fun _ _ => rfl⟩
  | cons l ls ih =>
    obtain ⟨e, he⟩ := h.places.some_of_mem (n := n) (l := l) (by simp [hls])
    have hd := h.drop (n := n) (l := l) (by simp [hls]) he (hlink l e (by simp) he)
    have hnodup := h.nodup n
    rw [hls] at hnodup
    obtain ⟨w, u, hu, hw, hsame, hnil, htags, hc⟩ :=
      ih (s := removeElement n l s) (v := lowerCount n (removeElement n l v)) hd
        (by show getAt (removeElement n l v).lists n = ls
            rw [getAt_lists_removeElement, if_pos rfl, hls, List.erase_cons_head])
        (fun k d hk hkd => by
          have hne : l ≠ k := fun e => (List.nodup_cons.mp hnodup).1 (e ▸ hk)
          refine hlink k d (List.mem_cons_of_mem _ hk) ?_
          have : getAt (removeElement n l v).slots k = some d := hkd
          rwa [getAt_slots_removeElement, if_neg hne] at this)
        ht (by show putAt v.slots l none = putAt s.slots l none; rw [hs])
        (by show putAt v.lists n _ = putAt s.lists n _; rw [hl])
    refine ⟨w, u, hu, hw, hsame, hnil, htags, fun m hm => (hc m hm).trans ?_⟩
    rw [count_lowerCount, if_neg hm]
    rfl

theorem Working.flushSource {k : Nat} {s : State} (h : Working k s) (n : SourceId) : Working k (flushSource n s) := by
  have h1 := Working.terminateAll (h.flushQueue n) (fun r => r.counted && decide (r.source = n)) none .quarantined
  unfold Machine.flushSource
  dsimp only
  generalize hs1 : Machine.terminateAll (fun r => r.counted && decide (r.source = n)) none .quarantined
    (Machine.flushQueue n s) = s1 at h1
  have hgone : ∀ t r, getAt s1.tags t = .active r → r.source = n → r.absorbed = true := fun t r hr hn => by
    have := (active_of_terminateAll (hs1 ▸ hr)).2
    simpa [ActiveRec.counted, hn] using this
  have hlink : ∀ l e, l ∈ getAt s1.lists n → getAt s1.slots l = some e → e.link = none := fun l e hl he =>
    Option.eq_none_iff_forall_ne_some.mpr fun t ht => by
      obtain ⟨r, hr, hk⟩ := h1.order.links.element l e t he ht
      have hn := h1.order.disjoint _ _ l (h1.order.links.entry t r l hr hk).1 hl
      exact nomatch (hgone t r hr hn).symm.trans (h1.not_absorbed hr hk)
  obtain ⟨w, u, hu, hw, hsame, hnil, htags, hc⟩ := h1.order.flush ⟨rfl, rfl, rfl⟩ rfl hlink
  have hzero : (getAt w.sources n).count = 0 := by
    rw [hw.count, countedElements_eq_sum, hnil, countedEntries_eq_tally, htags, tally_eq_zero]
    · rfl
    · intro t
      cases hx : getAt s1.tags t with
      | free => rfl
      | quarantined q => rfl
      | active r =>
        rw [countsFor_active]
        by_cases hn : r.source = n
        · simp [hgone t r hx hn]
        · simp [hn]
  have hflush : flushList n s1 = u := hu.symm
  have hsources : u.sources = s1.sources := by rw [← hflush]; simp
  have hcount : ∀ m, (getAt (mapCount n (fun _ => 0) u).sources m).count = (getAt w.sources m).count := fun m => by
    rw [count_mapCount]
    split
    · next e => rw [← e, hzero]
    · next e => rw [hsources, hc m e]
  have h2 := h1.shrinkBacklog (b := (flushList n s1).backlog.filter fun a => decide (a.source ≠ n))
    ((List.length_filter_le _ _).trans (by simp))
  refine h2.frame_queues (hw.frame ?_ ?_) (by constructor <;> simp) (activeTags_congr (by simp)).le
    (by simpa using h1.entries) fun m => ?_
  · simpa [hflush] using hsame
  · intro m; rw [← hcount, ← hflush]; rfl
  · show (getAt (mapCount n (fun _ => 0) (flushList n s1)).sources m).count ≤ (getAt s1.sources m).count
    rw [count_mapCount]
    split
    · exact Nat.zero_le _
    · simp

/-! ### SOFT_RESET (R182) -/

theorem Working.softReset {s : State} (h : Working 0 s) : Working 0 (softReset s) := by
  unfold Machine.softReset
  dsimp only
  have h1 := (h.frame_forward (q := []) (p := .new) (Nat.zero_le _) (fun _ hc => nomatch hc)).returnRqCredits
    .ordinary s.forwardQueue.length
  have h2 := (h1.terminateAll (fun _ => true) none .free).freeQuarantined
  generalize hs2 : Machine.freeQuarantined (Machine.terminateAll (fun _ => true) none .free
    (Machine.returnRqCredits .ordinary s.forwardQueue.length { s with forwardQueue := [], headPhase := .new })) = s2
    at h2
  have hgone : ∀ t r, getAt s2.tags t ≠ .active r := fun t r hr =>
    nomatch (show true = false from (active_of_terminateAll (active_of_freeQuarantined (hs2 ▸ hr))).2)
  have h3 := (h2.shrinkBacklog (b := []) (Nat.zero_le _)).clear fun t r hr => absurd hr (hgone t r)
  generalize hs3 : clearLists (clearCounts { s2 with backlog := [] }) = s3 at h3
  have hb : s3.backlog = [] := by rw [← hs3]; simp
  have h4 := Working.returnRsCredits
    (h3.frame (u := { s3 with ingress := [] })) s3.ingress.length
  refine Working.foldl (fun u a hu => hu.returnRqCredits a.pool 1) ?_ _
  exact (h4.clearTraffic.of_none_waiting (by simp [hb]) rfl).frame

end Sys2Proof.Machine
end

section
/-! PROOF. Every command keeps the queues within their room and return ordering in agreement. -/

namespace Sys2Proof.Machine

/-! ### What arrives on the two ports (R120 to R129) -/

theorem malformedOf_append (s : State) (a : MalformedAnswer) (p : PoolCode) :
    ({ s with malformedList := s.malformedList ++ [a] } : State).malformedOf p =
      s.malformedOf p + if a.pool = p then 1 else 0 := by
  simp [State.malformedOf, List.countP_append, List.countP_singleton]

/-- A free slot of a pool of the RQ port (R121). -/
def SlotFree (p : PoolCode) (s : State) : Prop :=
  (p = .ordinary ∧ s.forwardQueue.length + s.malformedOf .ordinary < 32) ∨
    (p = .management ∧ s.mgmtQueue.length + s.malformedOf .management < 2)

theorem slotFree_of_rqFree {p : PoolCode} {s : State} (h : s.rqFree p ≠ 0) : SlotFree p s := by
  cases p with
  | ordinary => exact .inl ⟨rfl, Nat.lt_of_sub_ne_zero h⟩
  | management => exact .inr ⟨rfl, Nat.lt_of_sub_ne_zero h⟩
  | ret => exact absurd rfl h

/-- A FAIL MALFORMED that keeps its slot (R127). -/
theorem Working.appendMalformed {s : State} (h : Working 0 s) {a : MalformedAnswer} (hfree : SlotFree a.pool s)
    (hw : s.malformedList ≠ [] ∨ s.trafficHasRoom = false) :
    Settled { s with malformedList := s.malformedList ++ [a] } := by
  have hfull : ¬ s.trafficQueue.length < 32 := fun hl => by
    rcases hw with hw | hw
    · exact hw (h.waits.malformed hl)
    · rw [(trafficHasRoom_iff s).mpr hl] at hw; exact nomatch hw
  have hpool : a.pool ≠ .ret ∧
      s.forwardQueue.length + ({ s with malformedList := s.malformedList ++ [a] } : State).malformedOf .ordinary ≤ 32 ∧
      s.mgmtQueue.length +
        ({ s with malformedList := s.malformedList ++ [a] } : State).malformedOf .management ≤ 2 := by
    have ho := h.bounded.ordinary
    have hm := h.bounded.management
    rw [malformedOf_append, malformedOf_append]
    rcases hfree with ⟨hp, hlt⟩ | ⟨hp, hlt⟩ <;> simp only [hp] <;> simp <;> omega
  obtain ⟨hret, hord, hmgmt⟩ := hpool
  refine ⟨{ h.bounded with ordinary := hord, management := hmgmt, noReturn := fun x hx => ?_ },
    ⟨fun hl => absurd hl hfull, fun hl => absurd hl hfull⟩, h.order.frame ⟨rfl, rfl, rfl⟩ fun _ => rfl⟩
  rcases List.mem_append.mp hx with hx | hx
  · exact h.bounded.noReturn x hx
  · exact List.mem_singleton.mp hx ▸ hret

theorem Working.takeMalformed {s : State} (h : Working 0 s) (r : Request) {p : PoolCode} (hfree : SlotFree p s) :
    Settled (takeMalformed r p s) := by
  have h1 := h.report .malformedRequest (some .rq) r.ident
  unfold Machine.takeMalformed answerMalformed
  dsimp only
  split
  · exact (h1.returnRqCredits p 1).settled
  · split
    · next hr => exact ((h1.pushTraffic (Bool.and_eq_true_iff.mp hr).2 _).returnRqCredits p 1).settled
    · next hr =>
      rw [Bool.and_eq_true, not_and_or, List.isEmpty_iff, Bool.not_eq_true] at hr
      refine h1.appendMalformed ?_ hr
      have hm := malformedOf_congr (u := Machine.report .malformedRequest (some .rq) r.ident s) (s := s) (by simp)
      unfold SlotFree at *
      simpa only [hm, report_keeps] using hfree

theorem Working.sortRequest {s : State} (h : Working 0 s) (r : Request) {p : PoolCode} (hfree : SlotFree p s) :
    Settled (sortRequest r p s) := by
  unfold Machine.sortRequest
  have hrest : ∀ u : State, Bounded u → u.trafficQueue = s.trafficQueue ∧ u.backlog = s.backlog ∧
      u.malformedList = s.malformedList → u.tags = s.tags ∧ u.slots = s.slots ∧ u.lists = s.lists →
      u.sources = s.sources → Settled u := fun u hb ⟨ht, hbl, hm⟩ hk hs =>
    ⟨hb, ⟨by rw [ht, hbl]; exact h.waits.backlog, by rw [ht, hm]; exact h.waits.malformed⟩,
      h.order.frame hk fun n => by rw [hs]⟩
  split
  · next hp =>
    rcases hfree with ⟨hp', -⟩ | ⟨-, hlt⟩
    · exact nomatch hp.symm.trans hp'
    · refine hrest _ { h.bounded with management := ?_ } ⟨rfl, rfl, rfl⟩ ⟨rfl, rfl, rfl⟩ rfl
      show (s.mgmtQueue ++ [r]).length + s.malformedOf .management ≤ 2
      rw [List.length_append, List.length_singleton]
      omega
  · next hp =>
    unfold joinForward
    split
    · exact ((h.report _ _ _).returnRqCredits _ _).settled
    · rcases hfree with ⟨-, hlt⟩ | ⟨hp', -⟩
      · refine hrest _ { h.bounded with ordinary := ?_ } ⟨rfl, rfl, rfl⟩ ⟨rfl, rfl, rfl⟩ rfl
        show (s.forwardQueue ++ [_]).length + s.malformedOf .ordinary ≤ 32
        rw [List.length_append, List.length_singleton]
        omega
      · exact absurd hp' hp

theorem Working.admitRq {s : State} (h : Working 0 s) (p : PoolCode) (words : List Word) (check : BitVec 16) :
    Settled (admitRq p words check s) := by
  have hkind : ∀ ws, Settled (failKind p ws s) := fun ws => ((h.returnRqCredits p 1).report _ _ _).settled
  unfold Machine.admitRq
  split
  · exact (h.report _ _ _).settled
  · next hf =>
    have hfree := slotFree_of_rqFree hf
    split
    · unfold takeRqPacket
      split
      · split
        · dsimp only
          split
          · exact h.takeMalformed _ hfree
          · exact h.sortRequest _ hfree
        · exact hkind _
      · exact hkind _
    · exact ((h.returnRqCredits p 1).report _ _ _).settled

theorem Working.admitRs {s : State} (h : Working 0 s) (words : List Word) (check : BitVec 16) :
    Settled (admitRs words check s) := by
  have hformat : ∀ ws, Settled (failFormat ws s) := fun ws => ((h.returnRsCredits 1).report _ _ _).settled
  unfold Machine.admitRs
  split
  · exact (h.report _ _ _).settled
  · next hf =>
    split
    · unfold takeRsPacket
      split
      · exact hformat _
      · split
        · exact hformat _
        · split
          · exact hformat _
          · refine ⟨{ h.bounded with ingress := ?_ }, ⟨h.waits.backlog, h.waits.malformed⟩,
              h.order.frame ⟨rfl, rfl, rfl⟩ fun _ => rfl⟩
            have hlt : s.ingress.length < 16 := Nat.lt_of_sub_ne_zero hf
            simp only [List.length_append, List.length_singleton]
            omega
    · exact ((h.returnRsCredits 1).report _ _ _).settled

theorem Working.rqFramingFailure {s : State} (h : Working 0 s) : Settled (rqFramingFailure s) :=
  (h.rqDown.frame (u := Machine.rqFramingFailure s) (by constructor <;> simp [Machine.rqFramingFailure])
    (by simp [Machine.rqFramingFailure]) (by simp [Machine.rqFramingFailure])).settled

theorem Working.rsFramingFailure {s : State} (h : Working 0 s) : Settled (rsFramingFailure s) :=
  (h.rsDown.frame (u := Machine.rsFramingFailure s) (by constructor <;> simp [Machine.rsFramingFailure])
    (by simp [Machine.rsFramingFailure]) (by simp [Machine.rsFramingFailure])).settled

theorem moreCredits_le {n : Nat} (h : n ≤ 63) : moreCredits n ≤ 63 := by
  unfold moreCredits Config.maxCredits
  split <;> omega

/-! ### The Management Agent (R170 to R175) -/

/-- What a row's handling leaves: `Working`, and the Management Response Slots as they were. -/
def Handled (s u : State) : Prop := Working 0 u ∧ u.mgmtSlots = s.mgmtSlots

theorem Working.handled {s u : State} (h : Working 0 s) (hq : QueueFrame s u := by constructor <;> simp)
    (hk : u.tags = s.tags ∧ u.slots = s.slots ∧ u.lists = s.lists := by simp)
    (hc : ∀ n, (getAt u.sources n).count = (getAt s.sources n).count := by simp)
    (hm : u.mgmtSlots = s.mgmtSlots := by rfl) : Handled s u :=
  ⟨h.frame hq hk hc, hm⟩

theorem Handled.refuse {s u : State} (h : Handled s u) (r : Request) (st : Status) : Handled s (refuse r st u).1 :=
  ⟨h.1.report _ _ _, by simpa [Machine.refuse] using h.2⟩

theorem Working.takeRequest {s : State} (h : Working 0 s) (row : MgmtRow) {handle : Request → State → State × Answer}
    (hh : ∀ r, Handled s (handle r s).1) : Settled (takeRequest row handle s) := by
  unfold Machine.takeRequest
  split
  · exact h.settled
  · next r rest hq =>
    split
    · next hr =>
      have hcan : r.kind = .write ∨ s.mgmtSlots.length < 2 := by
        simpa [State.canTake, Config.responseSlots] using (Bool.and_eq_true_iff.mp hr).2
      have hout : Handled s (carryOut handle r s).1 := by
        unfold carryOut
        split
        · exact Handled.refuse ⟨h, rfl⟩ _ _
        · exact hh r
      obtain ⟨h1, hm⟩ := hout
      have h2 : Working 0 (placeManagementAnswer r (carryOut handle r s).2 (carryOut handle r s).1) := by
        unfold placeManagementAnswer
        split
        · exact h1
        · next hw =>
          refine
            { bounded := { h1.bounded with answers := ?_ }
              waits := ⟨h1.waits.backlog, h1.waits.malformed⟩
              order := h1.order.frame ⟨rfl, rfl, rfl⟩ fun _ => rfl
              entries := h1.entries
              head := h1.head
              arrived := h1.arrived }
          have := hcan.resolve_left hw
          simp only [List.length_append, List.length_singleton, hm]
          omega
      have h3 : Working 0 (finishRequest (placeManagementAnswer r (carryOut handle r s).2 (carryOut handle r s).1)) :=
        (h2.frame (u := { placeManagementAnswer r (carryOut handle r s).2 (carryOut handle r s).1 with
          mgmtQueue := _ })).returnRqCredits .management 1
      exact h3.issueAfter s
    · exact h.settled

theorem handled_writeWith {s : State} (h : Working 0 s) {apply : Request → State → Option State}
    (ha : ∀ r u, apply r s = some u → Handled s u) (r : Request) : Handled s (writeWith apply r s).1 := by
  unfold writeWith
  split
  · exact Handled.refuse ⟨h, rfl⟩ _ _
  · split
    · next u hu => exact ha r u hu
    · exact Handled.refuse ⟨h, rfl⟩ _ _

theorem Handled.showCommand {s u : State} (h : Handled s u) (r : Request) (b : Bool) : Handled s (showCommand r b u) :=
  ⟨h.1.frame (by constructor <;> simp [Machine.showCommand]) (by simp [Machine.showCommand])
    (by simp [Machine.showCommand]), h.2⟩

theorem handled_commandWith {s : State} (h : Working 0 s) {effect : BitVec 8 → State → Option State}
    (he : ∀ a u, effect a s = some u → Handled s u) (r : Request) : Handled s (commandWith effect r s).1 := by
  unfold commandWith
  split
  · exact Handled.refuse ⟨h, rfl⟩ _ _
  · split
    · next u hu => exact (he _ u hu).showCommand r false
    · exact (Handled.showCommand ⟨h, rfl⟩ r true).refuse _ _

/-- A command that no state refuses. -/
theorem handled_commandWith_some {s : State} (h : Working 0 s) {f : State → State} (hf : Handled s (f s))
    (r : Request) : Handled s (commandWith (fun _ s => some (f s)) r s).1 :=
  handled_commandWith (effect := fun _ s => some (f s)) h (fun _ _ hu => Option.some.inj hu ▸ hf) r

theorem handled_handleOther {s : State} (h : Working 0 s) (r : Request) : Handled s (handleOther r s).1 := by
  unfold handleOther
  split
  · exact ⟨h, rfl⟩
  · exact handled_commandWith h (fun _ _ hu => nomatch (show (none : Option State) = some _ from hu)) r
  · exact Handled.refuse ⟨h, rfl⟩ _ _

section

variable {s u : State}

/-- A write of the Error Unit that keeps or shortens its queue. -/
theorem Working.handled_err (h : Working 0 s) {e : ErrorUnit} (he : e.records.length ≤ s.err.records.length) :
    Handled s { s with err := e } := by
  refine h.handled ?_ (by simp) (by simp) rfl
  constructor
  case records => exact fun hs => he.trans hs
  all_goals simp

theorem handled_swapRoles (h : Working 0 s) : Handled s (swapRoles s) :=
  h.handled (by constructor <;> simp [swapRoles]) (by simp [swapRoles]) (by simp [swapRoles]) rfl

theorem handled_copyBank (h : Working 0 s) : Handled s (copyBank s) :=
  h.handled (by constructor <;> simp [copyBank]) (by simp [copyBank]) (by simp [copyBank]) rfl

theorem handled_clearRecords (h : Working 0 s) : Handled s (clearRecordsEffect s) := h.handled_err (Nat.zero_le _)

theorem handled_softReset (h : Working 0 s) : Handled s (softReset s) := ⟨h.softReset, by simp⟩

theorem handled_quiesce (h : Working 0 s) (hu : quiesceEffect s = some u) : Handled s u := by
  unfold quiesceEffect at hu
  split at hu
  · obtain rfl := Option.some.inj hu
    exact h.handled
  · obtain rfl := Option.some.inj hu
    exact ⟨h, rfl⟩
  · obtain rfl := Option.some.inj hu
    exact ⟨h, rfl⟩
  · exact nomatch hu

theorem handled_resumeRun (h : Working 0 s) : Handled s (resumeRun s) :=
  ⟨(h.frame (u := { s with opState := .run })).linkDownClassified,
    by simp [resumeRun]⟩

theorem handled_resume (h : Working 0 s) (hu : resumeEffect s = some u) : Handled s u := by
  unfold resumeEffect at hu
  split at hu
  · obtain rfl := Option.some.inj hu
    exact ⟨h, rfl⟩
  · obtain rfl := Option.some.inj hu
    exact handled_resumeRun h
  · obtain rfl := Option.some.inj hu
    exact handled_resumeRun h
  · split at hu
    · exact nomatch hu
    · obtain rfl := Option.some.inj hu
      exact handled_resumeRun h

theorem handled_flush (h : Working 0 s) (a : BitVec 8) (hu : flushEffect a s = some u) : Handled s u := by
  unfold flushEffect at hu
  split at hu
  · obtain rfl := Option.some.inj hu
    exact ⟨h.flushSource _, by simp⟩
  · exact nomatch hu

theorem handled_alertAck (h : Working 0 s) (a : BitVec 8) (hu : alertAckEffect a s = some u) : Handled s u := by
  obtain ⟨c, -, rfl⟩ := Option.map_eq_some_iff.mp hu
  exact h.handled

theorem handled_popRecord (h : Working 0 s) (hu : popRecordEffect s = some u) : Handled s u := by
  unfold popRecordEffect at hu
  split at hu
  · exact nomatch hu
  · next r rest hr =>
    obtain rfl := Option.some.inj hu
    exact h.handled_err (by simp [hr])

theorem records_clearAll (e : ErrorUnit) : e.clearAll.records = e.records :=
  foldl_keeps (f := ErrorUnit.records) (g := ErrorUnit.clearAt) (fun _ _ => rfl) _ e

theorem records_maskFrom (v : Word) (e : ErrorUnit) :
    ((List.finRange 20).foldl (ErrorUnit.maskFrom v) e).records = e.records :=
  foldl_keeps (f := ErrorUnit.records) (g := ErrorUnit.maskFrom v) (fun _ _ => rfl) _ e

theorem records_severityFrom (second : Bool) (v : Word) (e : ErrorUnit) :
    ((List.finRange 10).foldl (ErrorUnit.severityFrom second v) e).records = e.records :=
  foldl_keeps (f := ErrorUnit.records) (g := ErrorUnit.severityFrom second v) (fun _ _ => rfl) _ e

theorem handled_clearStatus (h : Working 0 s) (a : BitVec 8) (hu : clearStatusEffect a s = some u) : Handled s u := by
  unfold clearStatusEffect at hu
  split at hu
  · obtain rfl := Option.some.inj hu
    exact h.handled_err (congrArg List.length (records_clearAll s.err)).le
  · split at hu
    · obtain rfl := Option.some.inj hu
      exact h.handled_err le_rfl
    · exact nomatch hu

/-! A rule that reads which word its request addresses is opened as a function, before it meets the request: the word's
offset is a difference with a 40-bit constant, which the kernel would otherwise count down from. -/

theorem count_of_configure {e e' : SourceEntry} {v : Word} (h : e.configure v = some e') : e'.count = e.count := by
  unfold SourceEntry.configure at h
  split at h
  · exact nomatch h
  · split at h
    · exact Option.some.inj h ▸ rfl
    · exact nomatch h

theorem handled_sourceConfig (h : Working 0 s) (r : Request) (hu : writeSourceConfig r s = some u) : Handled s u := by
  generalize hf : writeSourceConfig = f at hu
  delta writeSourceConfig at hf
  subst hf
  beta_reduce at hu
  generalize r.word = w at hu
  split at hu
  · next n _ =>
    obtain ⟨e, he, rfl⟩ := Option.map_eq_some_iff.mp hu
    refine h.handled (by constructor <;> simp) (by simp) (fun m => ?_) rfl
    rw [getAt_putAt]
    split
    · next hm => exact hm ▸ count_of_configure he
    · rfl
  · exact nomatch hu

theorem handled_staging (h : Working 0 s) (r : Request) (hu : writeStaging r s = some u) : Handled s u := by
  generalize hf : writeStaging = f at hu
  delta writeStaging at hf
  subst hf
  beta_reduce at hu
  generalize r.word = w at hu
  split at hu
  · dsimp only at hu
    split at hu
    · split at hu
      · obtain rfl := Option.some.inj hu
        exact h.handled
      · exact nomatch hu
    · exact nomatch hu
  · exact nomatch hu

theorem handled_timeoutClass (h : Working 0 s) (r : Request) (hu : writeTimeoutClass r s = some u) : Handled s u := by
  generalize hf : writeTimeoutClass = f at hu
  delta writeTimeoutClass at hf
  subst hf
  beta_reduce at hu
  generalize r.word = w at hu
  split at hu
  · split at hu
    · exact nomatch hu
    · obtain rfl := Option.some.inj hu
      exact h.handled
  · exact nomatch hu

theorem handled_quarantineLimit (h : Working 0 s) (r : Request) (hu : writeQuarantineLimit r s = some u) :
    Handled s u := by
  unfold writeQuarantineLimit at hu
  split at hu
  · exact nomatch hu
  · obtain rfl := Option.some.inj hu
    exact h.handled

theorem handled_tickPeriod (h : Working 0 s) (r : Request) (hu : writeTickPeriod r s = some u) : Handled s u := by
  unfold writeTickPeriod at hu
  dsimp only at hu
  split at hu
  · exact nomatch hu
  · obtain rfl := Option.some.inj hu
    exact h.handled

theorem handled_tickRun (h : Working 0 s) (r : Request) (hu : writeTickRun r s = some u) : Handled s u := by
  obtain rfl := Option.some.inj hu
  exact h.handled

theorem handled_errorControl (h : Working 0 s) (r : Request) (hu : writeErrorControl r s = some u) : Handled s u := by
  obtain rfl := Option.some.inj hu
  exact h.handled_err le_rfl

theorem handled_alertConfig (h : Working 0 s) (r : Request) (hu : writeAlertConfig r s = some u) : Handled s u := by
  obtain rfl := Option.some.inj hu
  exact h.handled

theorem handled_errorMask (h : Working 0 s) (r : Request) (hu : writeErrorMask r s = some u) : Handled s u := by
  obtain rfl := Option.some.inj hu
  exact h.handled_err (congrArg List.length (records_maskFrom r.value s.err)).le

theorem handled_errorSeverity (h : Working 0 s) (r : Request) (hu : writeErrorSeverity r s = some u) : Handled s u := by
  generalize hf : writeErrorSeverity = f at hu
  delta writeErrorSeverity at hf
  subst hf
  beta_reduce at hu
  generalize r.word = w at hu
  split at hu
  · split at hu
    · obtain rfl := Option.some.inj hu
      exact h.handled_err (congrArg List.length (records_severityFrom _ r.value s.err)).le
    · exact nomatch hu
  · exact nomatch hu

theorem handled_farSource (h : Working 0 s) (r : Request) (hu : writeFarSource r s = some u) : Handled s u := by
  unfold writeFarSource at hu
  split at hu
  · obtain rfl := Option.some.inj hu
    exact h.handled
  · exact nomatch hu

end

/-! ### Dispatch, the Tick Generator and the Matcher's step -/

theorem Working.tickEvent {s : State} (h : Working 0 s) : Working 0 (tickEvent s) :=
  (h.frame (u := { s with tick := s.tick.underflow })).expireAndLapse.distribute s

theorem Working.prescaledStep {s : State} (h : Working 0 s) : Working 0 (prescaledStep s) := by
  unfold Machine.prescaledStep
  split
  · exact h.tickEvent
  · exact h.frame

theorem Working.clockPeriod {s : State} (h : Working 0 s) : Settled (clockPeriod s) := by
  have htick : ∀ g, Working 0 { s with tick := g } := fun g => h.frame
  unfold Machine.clockPeriod
  split
  · exact h.settled
  · split
    · exact (htick _).settled
    · exact (htick _).prescaledStep.issueAfter s

theorem Working.matcherStep {s : State} (h : Working 0 s) : Working 0 (matcherStep s) := by
  unfold Machine.matcherStep
  split
  · exact h
  · next hw =>
    have h1 := h.matcherTake fun hn => by simpa [hn] using hw
    split
    · exact h1.distribute s
    · exact h1

/-- A head taken up: a CLASSIFIED one apart, which need not fit its request before the step ends. -/
theorem Working.takeUpHead {s : State} (h : Working 0 s) : Settled (takeUpHead s) := by
  have hphase : ∀ p, Settled (Machine.setPhase p s) := fun p =>
    ⟨{ h.bounded with }, ⟨h.waits.backlog, h.waits.malformed⟩, h.order.frame ⟨rfl, rfl, rfl⟩ fun _ => rfl⟩
  unfold Machine.takeUpHead
  split
  · exact h.settled
  · split
    · exact h.settled
    · split
      · exact hphase _
      · exact h.linkDownClassified.settled
    · split
      · exact hphase _
      · split
        · unfold classifyHead
          split
          · unfold refuseHead
            dsimp only
            split
            · exact (h.report _ _ _).removeHead.settled
            · exact ((h.report _ _ _).setPhase (p := .answering _) fun _ hc => nomatch hc).settled
          · split
            · exact (h.linkDownHead _ _).settled
            · exact hphase _
        · exact h.settled

theorem count_deviceReset (n : SourceId) (s : State) (m : SourceId) :
    (getAt (deviceReset n s).sources m).count = 0 := by
  show (getAt (putAt (fillTable 32 SourceEntry.unset) n SourceEntry.bootstrap) m).count = 0
  rw [getAt_putAt, getAt_fillTable]
  split <;> rfl

theorem getAt_tags_deviceReset (n : SourceId) (s : State) (g : PoolTag) : getAt (deviceReset n s).tags g = .free :=
  getAt_fillTable 64 _ g

theorem activeTags_deviceReset (n : SourceId) (s : State) : (deviceReset n s).activeTags = 0 := by
  rw [activeTags_eq_tally]
  exact tally_eq_zero fun t => by rw [getAt_tags_deviceReset]; rfl

theorem settled_deviceReset (n : SourceId) (s : State) : Settled (deviceReset n s) where
  bounded := by
    have ha := activeTags_deviceReset n s
    constructor
    case backlog => rw [ha]; exact Nat.zero_le _
    all_goals simp [deviceReset, State.afterReset, State.malformedOf, ErrorUnit.atReset]
  waits := ⟨fun _ => rfl, fun _ => rfl⟩
  order := orderSound_of_cleared (fun m => getAt_fillTable 32 _ m) (fun l => getAt_fillTable 64 _ l)
    (fun t r hr => by rw [getAt_tags_deviceReset] at hr; exact nomatch hr) (count_deviceReset n s)

end Sys2Proof.Machine
end

section
/-! PROOF. The statements of the family: every step keeps the queues bounded and return ordering sound, and device reset
frees every tag. -/

namespace Sys2Proof.Machine

open Host (Outcome)

theorem settled_of_next {u t : State} (h : Settled u) (ht : (Outcome.next u : Outcome State Fault Refusal) = .next t) :
    Settled t :=
  Outcome.next.inj ht ▸ h

/-! ### Every command -/

theorem settled_ite {c : Prop} [Decidable c] {u v : State} (hu : Settled u) (hv : Settled v) :
    Settled (if c then u else v) := by
  split
  · exact hu
  · exact hv

section

variable {s : State}

theorem Working.rqUp (h : Working 0 s) : Settled (rqUp s) := by
  have h1 : Working 0 { s with rqLink := .up, rqCredits := 0 } :=
    h.frame
  exact ((h1.returnRqCredits _ _).returnRqCredits _ _).settled

theorem Working.rsUp (h : Working 0 s) : Settled (rsUp s) := by
  have h1 : Working 0 { s with rsLink := .up, rsCredits := 0 } :=
    h.frame
  exact (h1.returnRsCredits _).settled

theorem settled_rqArrival (h : Working 0 s) (framing : BitVec 8) (words : List Word) (check : BitVec 16) {t : State}
    (ht : execRqArrival framing words check s = .next t) : Settled t := by
  obtain rfl := Outcome.next.inj ht
  split
  · exact h.settled
  · split
    · exact h.admitRq _ _ _
    · exact h.admitRq _ _ _
    · exact h.rqFramingFailure

theorem settled_rsArrival (h : Working 0 s) (framing : BitVec 8) (words : List Word) (check : BitVec 16) {t : State}
    (ht : execRsArrival framing words check s = .next t) : Settled t := by
  obtain rfl := Outcome.next.inj ht
  split
  · exact h.settled
  · split
    · exact h.admitRs _ _
    · exact h.rsFramingFailure

theorem settled_creditReturn (h : Working 0 s) (port : PortId) (byte : BitVec 8) {t : State}
    (ht : execCreditReturnIndication port byte s = .next t) : Settled t := by
  obtain rfl := Outcome.next.inj ht
  cases port with
  | rq =>
    refine settled_ite h.settled (settled_ite ?_ h.rqFramingFailure)
    exact ⟨{ h.bounded with rqCredits := moreCredits_le h.bounded.rqCredits }, ⟨h.waits.backlog, h.waits.malformed⟩,
      h.order.frame ⟨rfl, rfl, rfl⟩ fun _ => rfl⟩
  | rs =>
    refine settled_ite h.settled (settled_ite (Working.issueAfter ?_ s) h.rsFramingFailure)
    exact
      { bounded := { h.bounded with rsCredits := moreCredits_le h.bounded.rsCredits }
        waits := ⟨h.waits.backlog, h.waits.malformed⟩
        order := h.order.frame ⟨rfl, rfl, rfl⟩ fun _ => rfl
        entries := h.entries
        head := h.head
        arrived := h.arrived }

theorem settled_issue (h : Working 0 s) {t : State} (ht : execIssue s = .next t) : Settled t := by
  obtain rfl := Outcome.next.inj ht
  split
  · next hi => exact settled_ite h.settled (h.issueWith hi)
  · exact h.settled

theorem settled_issuePlainPosted (h : Working 0 s) {t : State} (ht : execIssuePlainPosted s = .next t) : Settled t := by
  obtain rfl := Outcome.next.inj ht
  split
  · next hi => exact settled_ite (h.issueWith hi) h.settled
  · exact h.settled

theorem settled_command (h : Working 0 s) {row : MgmtRow} {effect : BitVec 8 → State → Option State}
    (he : ∀ a u, effect a s = some u → Handled s u) : Settled (takeRequest row (commandWith effect) s) :=
  h.takeRequest row (handled_commandWith h he)

theorem settled_write (h : Working 0 s) {row : MgmtRow} {apply : Request → State → Option State}
    (ha : ∀ r u, apply r s = some u → Handled s u) : Settled (takeRequest row (writeWith apply) s) :=
  h.takeRequest row (handled_writeWith h ha)

/-- The rows of the Management Agent (R170). -/
theorem settled_management (h : Working 0 s) (row : MgmtRow) {t : State} (ht : exec row.command s = .next t) :
    Settled t := by
  cases row with
  | swapBanks => exact settled_of_next (h.takeRequest _ (handled_commandWith_some h (handled_swapRoles h))) ht
  | copyActiveToStaging => exact settled_of_next (h.takeRequest _ (handled_commandWith_some h (handled_copyBank h))) ht
  | quiesce => exact settled_of_next (settled_command h fun _ _ => handled_quiesce h) ht
  | resume => exact settled_of_next (settled_command h fun _ _ => handled_resume h) ht
  | flushSource => exact settled_of_next (settled_command h fun a _ => handled_flush h a) ht
  | softReset => exact settled_of_next (h.takeRequest _ (handled_commandWith_some h (handled_softReset h))) ht
  | alertAck => exact settled_of_next (settled_command h fun a _ => handled_alertAck h a) ht
  | popRecord => exact settled_of_next (settled_command h fun _ _ => handled_popRecord h) ht
  | clearRecords => exact settled_of_next (h.takeRequest _ (handled_commandWith_some h (handled_clearRecords h))) ht
  | clearStatus => exact settled_of_next (settled_command h fun a _ => handled_clearStatus h a) ht
  | sourceConfiguration => exact settled_of_next (settled_write h fun r _ => handled_sourceConfig h r) ht
  | stagingWindow => exact settled_of_next (settled_write h fun r _ => handled_staging h r) ht
  | timeoutClass => exact settled_of_next (settled_write h fun r _ => handled_timeoutClass h r) ht
  | quarantineLimit => exact settled_of_next (settled_write h fun r _ => handled_quarantineLimit h r) ht
  | tickPeriod => exact settled_of_next (settled_write h fun r _ => handled_tickPeriod h r) ht
  | tickRun => exact settled_of_next (settled_write h fun r _ => handled_tickRun h r) ht
  | errorMask => exact settled_of_next (settled_write h fun r _ => handled_errorMask h r) ht
  | errorSeverity => exact settled_of_next (settled_write h fun r _ => handled_errorSeverity h r) ht
  | errorControl => exact settled_of_next (settled_write h fun r _ => handled_errorControl h r) ht
  | alertConfiguration => exact settled_of_next (settled_write h fun r _ => handled_alertConfig h r) ht
  | farSource => exact settled_of_next (settled_write h fun r _ => handled_farSource h r) ht
  | other => exact settled_of_next (h.takeRequest _ (handled_handleOther h)) ht

/-- Every command that is no row of the Management Agent, and every such row. -/
theorem settled_exec (h : Working 0 s) (i : Instr) {t : State} (ht : exec i s = .next t) : Settled t := by
  cases i with
  | deviceReset n => exact settled_of_next (settled_deviceReset n s) ht
  | rqLinkUp => exact settled_of_next (settled_ite h.settled h.rqUp) ht
  | rqLinkDown => exact settled_of_next (settled_ite h.rqDown.settled h.settled) ht
  | rsLinkUp => exact settled_of_next (settled_ite h.settled h.rsUp) ht
  | rsLinkDown => exact settled_of_next (settled_ite h.rsDown.settled h.settled) ht
  | rqArrival framing words check => exact settled_rqArrival h framing words check ht
  | rsArrival framing words check => exact settled_rsArrival h framing words check ht
  | creditReturnIndication port byte => exact settled_creditReturn h port byte ht
  | tickEvent => exact settled_of_next (settled_ite (h.tickEvent.issueAfter s) h.settled) ht
  | expiry tag => exact settled_of_next (((h.expireTag tag).distribute s).issueAfter s) ht
  | lapse tag => exact settled_of_next ((h.lapseTag tag).issueAfter s) ht
  | classification => exact settled_of_next h.takeUpHead ht
  | issue => exact settled_issue h ht
  | issuePlainPosted => exact settled_issuePlainPosted h ht
  | answerPlacement => exact settled_of_next (h.placeDirect .dispatch).settled ht
  | backlogEntry => exact settled_of_next ((h.placeDirect .backlog).issueAfter s) ht
  | malformedAnswerEntry => exact settled_of_next (h.placeDirect .malformedList).settled ht
  | matcherTake => exact settled_of_next (h.matcherStep.issueAfter s) ht
  | drainStep source => exact settled_of_next ((h.placeDirect (.drain source)).issueAfter s) ht
  | transmitStep => exact settled_of_next (settled_ite (h.transmit.issueAfter s) h.settled) ht
  | halt => exact settled_of_next h.takeHalt.settled ht
  | prescaledStep => exact settled_of_next (settled_ite (h.prescaledStep.issueAfter s) h.settled) ht
  | swapBanks => exact settled_management h .swapBanks ht
  | copyActiveToStaging => exact settled_management h .copyActiveToStaging ht
  | quiesce => exact settled_management h .quiesce ht
  | resume => exact settled_management h .resume ht
  | flushSource => exact settled_management h .flushSource ht
  | softReset => exact settled_management h .softReset ht
  | alertAck => exact settled_management h .alertAck ht
  | popRecord => exact settled_management h .popRecord ht
  | clearRecords => exact settled_management h .clearRecords ht
  | clearStatus => exact settled_management h .clearStatus ht
  | sourceConfigurationWrite => exact settled_management h .sourceConfiguration ht
  | stagingWindowWrite => exact settled_management h .stagingWindow ht
  | timeoutClassWrite => exact settled_management h .timeoutClass ht
  | quarantineLimitWrite => exact settled_management h .quarantineLimit ht
  | tickPeriodWrite => exact settled_management h .tickPeriod ht
  | tickRunWrite => exact settled_management h .tickRun ht
  | errorMaskWrite => exact settled_management h .errorMask ht
  | errorSeverityWrite => exact settled_management h .errorSeverity ht
  | errorControlWrite => exact settled_management h .errorControl ht
  | alertConfigurationWrite => exact settled_management h .alertConfiguration ht
  | farSourceIdWrite => exact settled_management h .farSource ht
  | managementWrite => exact settled_management h .other ht

end

/-- A step taken where the invariant holds: a command of the queue, or a core clock period. -/
theorem Inv.step_settled {s t : State} (h : Inv s) (ht : step s = .next t) : Settled t := by
  unfold step at ht
  split at ht
  · exact settled_of_next (h.working rfl).clockPeriod ht
  · exact settled_exec (h.working rfl) _ ht

/-! ### The statements -/

/-- Settles O55: `Working` holds from the start of every step to its end, and holds the bounds. -/
theorem stepKeepsQueuesBounded : Obligations.StepKeepsQueuesBounded := fun _ _ h ht =>
  have hs := h.step_settled ht
  ⟨hs.bounded, hs.waits⟩

/-- Settles O58: `Working` holds from the start of every step to its end, and an issue at the end keeps the agreement. -/
theorem stepKeepsReturnOrderSound : Obligations.StepKeepsReturnOrderSound := fun _ _ h ht =>
  (h.step_settled ht).order

/-- Settles O5, from the tables a device reset fills (R21). -/
theorem deviceResetFreesEveryTag : Obligations.DeviceResetFreesEveryTag := fun n s => by
  refine ⟨deviceReset n s, rfl, getAt_tags_deviceReset n s, rfl, count_deviceReset n s, activeTags_deviceReset n s,
    fun g q hq => ?_⟩
  rw [getAt_tags_deviceReset] at hq
  exact nomatch hq

end Sys2Proof.Machine
end

section
/-! PROOF. `Steady`: what every shared operation keeps of the head, the operating state, the links and the alert classes
between the start of a step and its end, and the frame for an operation that leaves most of it alone. -/

namespace Sys2Proof.Machine

/-! ### The parts of the invariant -/

/-- Nothing of the RQ port's traffic is left (R18, R122, R134). -/
structure RqIdle (s : State) : Prop where
  credits : s.rqCredits = 0
  forward : s.forwardQueue = []
  management : s.mgmtQueue = []
  answers : s.mgmtSlots = []
  traffic : s.trafficQueue = []
  malformed : s.malformedList = []
  backlog : s.backlog = []
  lists : ∀ n, getAt s.lists n = []
  absorbed : ∀ t r, getAt s.tags t = .active r → r.absorbed = true

/-- Nothing of the RS port's traffic is left (R19, R67, R122, R136). -/
structure RsIdle (s : State) : Prop where
  credits : s.rsCredits = 0
  ingress : s.ingress = []
  tags : ∀ t, getAt s.tags t = .free

theorem linksSound_iff (s : State) :
    LinksSound s ↔ (s.rqLink = .down → RqIdle s) ∧ (s.rsLink = .down → RsIdle s) := by
  constructor
  · intro h
    exact ⟨fun hd => ⟨h.rqCredits hd, h.forward hd, h.management hd, h.answers hd, h.traffic hd, h.malformed hd,
      h.backlog hd, h.lists hd, h.absorbed hd⟩, fun hd => ⟨h.rsCredits hd, h.ingress hd, h.tags hd⟩⟩
  · rintro ⟨hq, hs⟩
    exact
      { rqCredits := fun hd => (hq hd).credits
        forward := fun hd => (hq hd).forward
        management := fun hd => (hq hd).management
        answers := fun hd => (hq hd).answers
        traffic := fun hd => (hq hd).traffic
        malformed := fun hd => (hq hd).malformed
        backlog := fun hd => (hq hd).backlog
        lists := fun hd => (hq hd).lists
        absorbed := fun hd => (hq hd).absorbed
        rsCredits := fun hd => (hs hd).credits
        ingress := fun hd => (hs hd).ingress
        tags := fun hd => (hs hd).tags }

theorem alertsSound_iff (s : State) : AlertsSound s ↔ ∀ c, ClassSound (s.alert.cls c) := by
  constructor
  · intro h c
    cases c with
    | fatal => exact h.fatal
    | nonfatal => exact h.nonfatal
    | advisory => exact h.advisory
  · exact fun h => ⟨h .fatal, h .nonfatal, h .advisory⟩

/-- What a step leaves behind: the four claims of the statement. -/
structure Upheld (s : State) : Prop where
  head : HeadSound s
  states : StatesSound s
  links : LinksSound s
  alerts : AlertsSound s

/-- The four claims with what the operations of a step rest on to keep them. -/
structure Steady (s : State) : Prop where
  head : HeadSound s
  states : StatesSound s
  rq : s.rqLink = .down → RqIdle s
  rs : s.rsLink = .down → RsIdle s
  alerts : AlertsSound s
  entries : ∀ t r, getAt s.tags t = .active r → EntryFits r
  records : s.err.records.length ≤ 8

theorem Steady.upheld {s : State} (h : Steady s) : Upheld s :=
  ⟨h.head, h.states, (linksSound_iff s).mpr ⟨h.rq, h.rs⟩, h.alerts⟩

/-- The state that a command finds when the invariant held before the step. -/
theorem Inv.steady {s u : State} (h : Inv s) (hu : u = { s with pending := u.pending }) : Steady u := by
  have hentries := (h.working hu).entries
  rw [hu] at hentries ⊢
  obtain ⟨hq, hs⟩ := (linksSound_iff s).mp h.links
  exact
    { head := { h.head with }
      states := ⟨h.states.drained, h.states.draining, h.states.halted⟩
      rq := fun hd => { hq hd with }
      rs := fun hd => { hs hd with }
      alerts := ⟨h.alerts.fatal, h.alerts.nonfatal, h.alerts.advisory⟩
      entries := hentries
      records := h.bounded.records }

/-! ### Frames -/

theorem HeadSound.frame {s u : State} (h : HeadSound s) (hq : u.forwardQueue = s.forwardQueue)
    (hp : u.headPhase = s.headPhase) (ho : u.opState = .halted → s.opState = .halted)
    (hc : ∀ n, (getAt u.sources n).count ≤ (getAt s.sources n).count) : HeadSound u where
  empty := by rw [hq, hp]; exact h.empty
  marked := by rw [hq]; exact h.marked
  halted := by rw [hq]; exact fun hu => h.halted (ho hu)
  answering := by rw [hq, hp]; exact h.answering
  unmarked := by rw [hq, hp]; exact fun w rest c hw hc => (h.unmarked w rest c hw hc).imp_right (mt ho)
  cls := by rw [hq, hp]; exact h.cls
  ordered := by rw [hq, hp]; exact h.ordered
  reservation := by rw [hq, hp]; exact h.reservation
  room := by rw [hq, hp]; exact fun w rest c hw hcl hn => (hc _).trans_lt (h.room w rest c hw hcl hn)

theorem StatesSound.frame {s u : State} (h : StatesSound s) (ho : u.opState = s.opState)
    (ha : u.activeTags = s.activeTags) (hr : s.opState = .halted → u.haltRequested = s.haltRequested) :
    StatesSound u where
  drained := by rw [ho, ha]; exact h.drained
  draining := by rw [ho, ha]; exact h.draining
  halted := by rw [ho]; exact fun hh => (hr hh).trans (h.halted hh)

theorem AlertsSound.frame {s u : State} (h : AlertsSound s) (ha : u.alert = s.alert) : AlertsSound u := by
  rw [alertsSound_iff, ha, ← alertsSound_iff]; exact h

/-- `u` agrees with `s` in what the four claims read; a queue or list that a DOWN port must have left empty may
change while that port is UP. -/
structure Unmoved (s u : State) : Prop where
  forwardQueue : u.forwardQueue = s.forwardQueue
  headPhase : u.headPhase = s.headPhase
  opState : u.opState = s.opState
  count : ∀ n, (getAt u.sources n).count ≤ (getAt s.sources n).count
  tags : u.tags = s.tags
  haltRequested : s.opState = .halted → u.haltRequested = s.haltRequested
  rqLink : u.rqLink = s.rqLink
  rsLink : u.rsLink = s.rsLink
  rqCredits : s.rqLink = .down → s.rqCredits = 0 → u.rqCredits = 0
  mgmtQueue : s.rqLink = .down → s.mgmtQueue = [] → u.mgmtQueue = []
  mgmtSlots : s.rqLink = .down → s.mgmtSlots = [] → u.mgmtSlots = []
  trafficQueue : s.rqLink = .down → s.trafficQueue = [] → u.trafficQueue = []
  malformedList : s.rqLink = .down → s.malformedList = [] → u.malformedList = []
  backlog : s.rqLink = .down → s.backlog = [] → u.backlog = []
  lists : s.rqLink = .down → (∀ n, getAt s.lists n = []) → ∀ n, getAt u.lists n = []
  rsCredits : s.rsLink = .down → s.rsCredits = 0 → u.rsCredits = 0
  ingress : s.rsLink = .down → s.ingress = [] → u.ingress = []

theorem Unmoved.rqIdle {s u : State} (f : Unmoved s u) (hd : s.rqLink = .down) (h : RqIdle s) : RqIdle u where
  credits := f.rqCredits hd h.credits
  forward := f.forwardQueue.trans h.forward
  management := f.mgmtQueue hd h.management
  answers := f.mgmtSlots hd h.answers
  traffic := f.trafficQueue hd h.traffic
  malformed := f.malformedList hd h.malformed
  backlog := f.backlog hd h.backlog
  lists := f.lists hd h.lists
  absorbed := by rw [f.tags]; exact h.absorbed

theorem Unmoved.rsIdle {s u : State} (f : Unmoved s u) (hd : s.rsLink = .down) (h : RsIdle s) : RsIdle u where
  credits := f.rsCredits hd h.credits
  ingress := f.ingress hd h.ingress
  tags := by rw [f.tags]; exact h.tags

section

variable {s u : State}

/-- An operation that leaves the head, the tags and the operating state alone. -/
theorem Steady.moved (h : Steady s) (f : Unmoved s u) (ha : AlertsSound u) (he : u.err.records.length ≤ 8) :
    Steady u where
  head := h.head.frame f.forwardQueue f.headPhase (by rw [f.opState]; exact id) f.count
  states := h.states.frame f.opState (activeTags_congr f.tags) f.haltRequested
  rq hd := f.rqIdle (f.rqLink ▸ hd) (h.rq (f.rqLink ▸ hd))
  rs hd := f.rsIdle (f.rsLink ▸ hd) (h.rs (f.rsLink ▸ hd))
  alerts := ha
  entries := by rw [f.tags]; exact h.entries
  records := he

/-- An operation that besides leaves the Alert Unit and the records alone. Where the laws of its updates show that,
`simp` fills in the frame. -/
theorem Steady.frame (h : Steady s) (f : Unmoved s u := by constructor <;> simp) (ha : u.alert = s.alert := by simp)
    (he : u.err.records.length ≤ s.err.records.length := by simp) : Steady u :=
  h.moved f (h.alerts.frame ha) (he.trans h.records)

theorem Steady.returnRqCredits (h : Steady s) (p : PoolCode) (n : Nat) : Steady (returnRqCredits p n s) := h.frame

theorem Steady.returnRsCredits (h : Steady s) (n : Nat) : Steady (returnRsCredits n s) := h.frame

theorem Steady.mapElement (h : Steady s) (l : SlotId) (f : Element → Element) : Steady (mapElement l f s) := h.frame

theorem Steady.pushTraffic (h : Steady s) (hup : s.rqLink = .up) (r : Response) : Steady (pushTraffic r s) :=
  h.frame (by constructor <;> simp [hup])

theorem Steady.lowerCount (h : Steady s) (n : SourceId) : Steady (lowerCount n s) := by
  refine h.frame ?_
  constructor
  case count => exact count_lowerCount_le n s
  all_goals simp

theorem Steady.removeElement (h : Steady s) (n : SourceId) (l : SlotId) : Steady (removeElement n l s) := by
  refine h.frame ?_
  constructor
  case lists =>
    intro _ hl m
    rw [getAt_lists_removeElement]
    split <;> simp [hl]
  all_goals simp

/-- A fold of operations that each keep `Steady`. -/
theorem Steady.foldl {α : Type} {g : State → α → State} (hg : ∀ s x, Steady s → Steady (g s x)) (h : Steady s)
    (l : List α) : Steady (l.foldl g s) :=
  List.foldlRecOn l g h fun s hs x _ => hg s x hs

/-! ### Reports and alerts (R140, R160 to R166) -/

theorem cls_setCls (a : AlertUnit) (c d : Severity) (x : AlertClass) :
    (a.setCls c x).cls d = if c = d then x else a.cls d := by
  cases c <;> cases d <;> rfl

/-- One class changes to a sound one. -/
theorem classSound_setCls {a : AlertUnit} (h : ∀ d, ClassSound (a.cls d)) {c : Severity} {x : AlertClass}
    (hx : ClassSound x) (d : Severity) : ClassSound ((a.setCls c x).cls d) := by
  rw [cls_setCls]
  split
  · exact hx
  · exact h d

theorem classSound_toIdle (x : AlertClass) : ClassSound x.toIdle where
  idle _ := ⟨rfl, rfl⟩
  told hn := absurd rfl hn
  records _ ha := nomatch ha

theorem classSound_raise {a : AlertUnit} (h : ∀ d, ClassSound (a.cls d)) (c : Severity) (k : ErrorKind) {n : Nat}
    (hn : n ≤ 8) (ovf : Bool) (d : Severity) : ClassSound ((a.raise c k n ovf).cls d) := by
  have hon : (a.cls c).state ≠ .idle → (a.cls c).enable = true := fun hs => ((h c).told hs).1
  unfold AlertUnit.raise
  dsimp only
  split
  · split
    · next he =>
      refine classSound_setCls h ?_ d
      exact ⟨nofun, fun _ => ⟨(Bool.and_eq_true_iff.mp he).1, rfl⟩, by rintro x ⟨⟩; exact hn⟩
    · exact h d
  · next hs =>
    refine classSound_setCls h ?_ d
    exact ⟨nofun, fun _ => ⟨hon (by simp [hs]), rfl⟩, (h c).records⟩
  · next hs =>
    refine classSound_setCls h ?_ d
    exact ⟨fun hi => (nomatch hs.symm.trans hi), fun _ => ⟨hon (by simp [hs]), rfl⟩, (h c).records⟩

theorem classSound_ack {a : AlertUnit} (h : ∀ d, ClassSound (a.cls d)) (c : Severity) {n : Nat} (hn : n ≤ 8)
    (ovf : Bool) (d : Severity) : ClassSound ((a.ack c n ovf).cls d) := by
  have hidle := classSound_setCls h (c := c) (classSound_toIdle (a.cls c)) d
  unfold AlertUnit.ack
  dsimp only
  split
  · exact h d
  · exact hidle
  · next hs =>
    split
    · next k hk =>
      split
      · refine classSound_setCls h ?_ d
        exact ⟨nofun, fun _ => ⟨((h c).told (by simp [hs])).1, by simp [hk]⟩, by rintro x ⟨⟩; exact hn⟩
      · exact hidle
    · exact hidle

theorem classSound_setEnable {x : AlertClass} (h : ClassSound x) (on : Bool) : ClassSound (x.setEnable on) := by
  unfold AlertClass.setEnable
  split
  · exact ⟨fun _ => ⟨rfl, rfl⟩, fun hn => absurd rfl hn, nofun⟩
  · next hoff =>
    refine ⟨h.idle, fun hn => ⟨?_, (h.told hn).2⟩, h.records⟩
    simpa [(h.told hn).1] using hoff

theorem alertsSound_report (hs : AlertsSound s) (hr : s.err.records.length ≤ 8) (k : ErrorKind) (port : Option PortId)
    (id : Ident) : AlertsSound (report k port id s) := by
  have hrec := report_records (k := k) (port := port) (id := id) hr
  unfold report at hrec ⊢
  split at hrec
  · next hm => rw [if_pos hm]; exact hs.frame rfl
  · next hm =>
    rw [if_neg hm]
    exact (alertsSound_iff _).mpr (classSound_raise ((alertsSound_iff s).mp hs) _ k hrec _)

theorem Steady.report (h : Steady s) (k : ErrorKind) (port : Option PortId) (id : Ident) :
    Steady (report k port id s) := by
  refine h.moved ?_ (alertsSound_report h.alerts h.records k port id) (report_records h.records)
  constructor
  case haltRequested => exact report_haltRequested_of_halted k port id
  all_goals simp

end

end Sys2Proof.Machine
end

section
/-! PROOF. The end of an entry, termination, the Response Matcher, the draining heads and the room distribution keep
`Steady`. -/

namespace Sys2Proof.Machine

section

variable {s : State} {t : PoolTag} {r : ActiveRec} {x : TagState}

/-! ### The end of an entry (R15) -/

/-- What a DOWN RQ port has left behind is there while that port is UP alone. -/
theorem Steady.rqUp_of_not_idle (h : Steady s) (hn : ¬ RqIdle s) : s.rqLink = .up := by
  cases hl : s.rqLink with
  | up => rfl
  | down => exact absurd (h.rq hl) hn

theorem Steady.rqUp_of_active (h : Steady s) (hr : getAt s.tags t = .active r) (habs : r.absorbed = false) :
    s.rqLink = .up :=
  h.rqUp_of_not_idle fun hi => nomatch habs.symm.trans (hi.absorbed t r hr)

/-- `u` is `s` after entries, and the elements and counts that go with them, have moved in a way that keeps what is
sound. -/
structure EntryMove (s u : State) : Prop where
  forwardQueue : u.forwardQueue = s.forwardQueue
  headPhase : u.headPhase = s.headPhase
  rqLink : u.rqLink = s.rqLink
  rsLink : u.rsLink = s.rsLink
  alert : u.alert = s.alert
  err : u.err = s.err
  halted : u.opState = .halted ↔ s.opState = .halted
  count : ∀ n, (getAt u.sources n).count ≤ (getAt s.sources n).count
  states : StatesSound s → StatesSound u
  rq : RqIdle s → RqIdle u
  rs : RsIdle s → RsIdle u
  entries : (∀ t r, getAt s.tags t = .active r → EntryFits r) → ∀ t r, getAt u.tags t = .active r → EntryFits r

theorem EntryMove.refl (s : State) : EntryMove s s :=
  ⟨rfl, rfl, rfl, rfl, rfl, rfl, Iff.rfl, fun _ => le_rfl, id, id, id, id⟩

theorem EntryMove.trans {s u v : State} (h : EntryMove s u) (k : EntryMove u v) : EntryMove s v where
  forwardQueue := k.forwardQueue.trans h.forwardQueue
  headPhase := k.headPhase.trans h.headPhase
  rqLink := k.rqLink.trans h.rqLink
  rsLink := k.rsLink.trans h.rsLink
  alert := k.alert.trans h.alert
  err := k.err.trans h.err
  halted := k.halted.trans h.halted
  count n := (k.count n).trans (h.count n)
  states hs := k.states (h.states hs)
  rq hs := k.rq (h.rq hs)
  rs hs := k.rs (h.rs hs)
  entries hs := k.entries (h.entries hs)

/-- A fold of moves. -/
theorem EntryMove.foldl {α : Type} {g : State → α → State} (hg : ∀ s x, EntryMove s (g s x)) (s : State) (l : List α) :
    EntryMove s (l.foldl g s) :=
  List.foldlRecOn l g (.refl s) fun u hu x _ => hu.trans (hg u x)

theorem EntryMove.steady {s u : State} (m : EntryMove s u) (h : Steady s) : Steady u where
  head := h.head.frame m.forwardQueue m.headPhase m.halted.mp m.count
  states := m.states h.states
  rq hd := m.rq (h.rq (m.rqLink ▸ hd))
  rs hd := m.rs (h.rs (m.rsLink ▸ hd))
  alerts := h.alerts.frame m.alert
  entries := m.entries h.entries
  records := m.err ▸ h.records

/-- A tag moves, and the operating state may with it. -/
theorem entryMove_retag {o : OpState} (hs : StatesSound s → StatesSound { setTag t x s with opState := o })
    (ho : o = .halted ↔ s.opState = .halted) (hfree : getAt s.tags t = .free → x = .free)
    (hfit : ∀ q, x = .active q →
      ∃ r, getAt s.tags t = .active r ∧ q.absorbed = r.absorbed ∧ (EntryFits r → EntryFits q)) :
    EntryMove s { setTag t x s with opState := o } where
  forwardQueue := rfl
  headPhase := rfl
  rqLink := rfl
  rsLink := rfl
  alert := rfl
  err := rfl
  halted := ho
  count _ := le_rfl
  states := hs
  rq hi :=
    { hi with
      absorbed := fun g q hq => by
        rw [getAt_tags_setTag] at hq
        split at hq
        · obtain ⟨r, hr, habs, -⟩ := hfit q hq
          exact habs.trans (hi.absorbed t r hr)
        · exact hi.absorbed g q hq }
  rs hi :=
    { hi with
      tags := fun g => by
        rw [getAt_tags_setTag]
        split
        · exact hfree (hi.tags t)
        · exact hi.tags g }
  entries he := entriesFit_of_putAt he rfl fun q hq => by
    obtain ⟨r, hr, -, hf⟩ := hfit q hq
    exact hf (he t r hr)

/-- The operating state with which a tag leaves ACTIVE. -/
def State.opAfter (s : State) (t : PoolTag) (x : TagState) : OpState :=
  if s.opState = .quiescing ∧ (setTag t x s).activeTags = 0 then .quiesced else s.opState

theorem leaveActive_eq (t : PoolTag) (x : TagState) (s : State) :
    leaveActive t x s = { setTag t x s with opState := s.opAfter t x } := by
  unfold leaveActive drained State.opAfter
  simp only [setTag_keeps]
  split <;> rfl

theorem opAfter_halted (s : State) (t : PoolTag) (x : TagState) : s.opAfter t x = .halted ↔ s.opState = .halted := by
  unfold State.opAfter
  split
  · next h => simp [h.1]
  · rfl

theorem activeTags_setTag_le (s : State) (t : PoolTag) (hx : x.isActive = false) :
    (setTag t x s).activeTags ≤ s.activeTags := by
  have h := activeTags_of_putAt (s := s) (u := setTag t x s) rfl
  simp only [hx, Bool.toNat_false] at h
  omega

theorem StatesSound.leaveActive (h : StatesSound s) (t : PoolTag) (hx : x.isActive = false) :
    StatesSound (leaveActive t x s) := by
  have hle := activeTags_setTag_le s t hx
  have hact : (Machine.leaveActive t x s).activeTags = (setTag t x s).activeTags :=
    activeTags_congr (leaveActive_tags t x s)
  have ho : (Machine.leaveActive t x s).opState = s.opAfter t x := by rw [leaveActive_eq]
  by_cases hlast : s.opState = .quiescing ∧ (setTag t x s).activeTags = 0
  · rw [State.opAfter, if_pos hlast] at ho
    exact ⟨fun _ => hact.trans hlast.2, fun hq => (nomatch ho.symm.trans hq), fun hh => (nomatch ho.symm.trans hh)⟩
  · rw [State.opAfter, if_neg hlast] at ho
    refine ⟨fun hd => ?_, fun hq => ?_, fun hh => ?_⟩
    · have := h.drained (ho ▸ hd)
      omega
    · have := mt (And.intro (ho.symm.trans hq)) hlast
      omega
    · simpa using h.halted (ho ▸ hh)

theorem entryMove_leaveActive (hr : getAt s.tags t = .active r) (hx : x.isActive = false) :
    EntryMove s (leaveActive t x s) := by
  have hs := fun h : StatesSound s => h.leaveActive t hx
  rw [leaveActive_eq] at hs ⊢
  refine entryMove_retag hs (opAfter_halted s t x) (fun hf => nomatch hr.symm.trans hf) fun q hq => ?_
  rw [hq] at hx
  exact nomatch hx

theorem Steady.leaveActive (h : Steady s) (hr : getAt s.tags t = .active r) (hx : x.isActive = false) :
    Steady (leaveActive t x s) :=
  (entryMove_leaveActive hr hx).steady h

/-- A tag that is not ACTIVE becomes FREE. -/
theorem entryMove_freeTag (hs : (getAt s.tags t).isActive = false) : EntryMove s (setTag t .free s) := by
  refine entryMove_retag (o := s.opState) (fun h => h.frame rfl ?_ fun _ => rfl) Iff.rfl (fun _ => rfl) nofun
  have := activeTags_of_putAt (s := s) (u := setTag t .free s) rfl
  rw [hs] at this
  exact Nat.add_right_cancel this

theorem Steady.freeTag (h : Steady s) (hs : (getAt s.tags t).isActive = false) : Steady (setTag t .free s) :=
  (entryMove_freeTag hs).steady h

/-- An ACTIVE entry changes in what the four claims do not read. -/
theorem Steady.setTag_active (h : Steady s) (hr : getAt s.tags t = .active r) {r' : ActiveRec}
    (habs : r'.absorbed = r.absorbed) (hfit : EntryFits r → EntryFits r') : Steady (setTag t (.active r') s) := by
  refine EntryMove.steady (entryMove_retag (o := s.opState) (fun h => h.frame rfl ?_ fun _ => rfl) Iff.rfl
    (fun hf => nomatch hr.symm.trans hf) fun q hq => ?_) h
  · have := activeTags_of_putAt (s := s) (u := setTag t (.active r') s) rfl
    rw [hr] at this
    exact Nat.add_right_cancel this
  · obtain rfl := TagState.active.inj hq
    exact ⟨r, hr, habs, hfit⟩

/-! ### Termination (R7 to R10) -/

theorem answerEntry_of_absorbed (habs : r.absorbed = true) (ans : Option Status) (s : State) :
    answerEntry r ans s = s := if_pos habs

theorem count_answerEntry_le (r : ActiveRec) (ans : Option Status) (s : State) (n : SourceId) :
    (getAt (answerEntry r ans s).sources n).count ≤ (getAt s.sources n).count := by
  unfold answerEntry
  split
  · exact le_rfl
  · split
    · exact (count_lowerCount_le _ _ n).trans (by simp)
    · exact count_lowerCount_le _ _ n
    · simp
    · exact (count_lowerCount_le _ _ n).trans (by simp)

theorem entryMove_answerEntry (hr : getAt s.tags t = .active r) (ans : Option Status) :
    EntryMove s (answerEntry r ans s) := by
  constructor
  case count => exact count_answerEntry_le r ans s
  case states => exact fun h => h.frame (by simp) (activeTags_congr (by simp)) (by simp)
  case rq => exact fun hi => by rw [answerEntry_of_absorbed (hi.absorbed t r hr)]; exact hi
  case rs => exact fun hi => nomatch hr.symm.trans (hi.tags t)
  all_goals simp

theorem entryMove_terminate (t : PoolTag) (ans : Option Status) (dest : TagDest) (s : State) :
    EntryMove s (terminate t ans dest s) := by
  unfold terminate
  split
  · next r hr =>
    exact (entryMove_answerEntry hr ans).trans
      (entryMove_leaveActive (r := r) (by simpa using hr) (destState_inactive s r dest))
  · exact .refl s

theorem Steady.terminate (h : Steady s) (t : PoolTag) (ans : Option Status) (dest : TagDest) :
    Steady (terminate t ans dest s) :=
  (entryMove_terminate t ans dest s).steady h

theorem entryMove_terminateAll (which : ActiveRec → Bool) (ans : Option Status) (dest : TagDest) (s : State) :
    EntryMove s (terminateAll which ans dest s) := by
  refine EntryMove.foldl (fun s t => ?_) s _
  split
  · split
    · exact entryMove_terminate t ans dest s
    · exact .refl s
  · exact .refl s

theorem entryMove_freeQuarantined (s : State) : EntryMove s (freeQuarantined s) := by
  refine EntryMove.foldl (fun s t => ?_) s _
  split
  · next hq => exact entryMove_freeTag (isActive_of_isQuarantined hq)
  · exact .refl s

/-! ### Expiry and lapse (R110 to R112) -/

theorem Steady.expireTag (h : Steady s) (t : PoolTag) : Steady (expireTag t s) := by
  unfold Machine.expireTag
  split
  · split
    · exact (h.report _ _ _).terminate t _ _
    · exact h
  · exact h

theorem Steady.lapseTag (h : Steady s) (t : PoolTag) : Steady (lapseTag t s) := by
  unfold Machine.lapseTag
  split
  · next q hq =>
    split
    · exact h.freeTag (by rw [hq]; rfl)
    · exact h
  · exact h

theorem Steady.expireAndLapse (h : Steady s) : Steady (expireAndLapse s) :=
  Steady.foldl (fun _ t hs => hs.lapseTag t) (Steady.foldl (fun _ t hs => hs.expireTag t) h _) _

/-! ### The Response Matcher (chapter 4) -/

theorem Steady.endForwarded (h : Steady s) (r : ActiveRec) : Steady (endForwarded r s) := by
  unfold Machine.endForwarded
  split
  · exact h.lowerCount _
  · exact (h.removeElement _ _).lowerCount _

theorem Steady.mapLinked (h : Steady s) (r : ActiveRec) (f : Element → Element) : Steady (mapLinked r f s) := by
  unfold Machine.mapLinked
  split
  · exact h
  · exact h.mapElement _ _

/-- The final response of an entry, forwarded. -/
theorem Steady.forwardFinal (h : Steady s) (hup : s.rqLink = .up) (hr : getAt s.tags t = .active r) (b : Body) :
    Steady (Machine.leaveActive t .free (Machine.endForwarded r (forwardBody r b s))) :=
  ((h.pushTraffic hup _).endForwarded r).leaveActive (r := r) (by simpa [Machine.pushTraffic] using hr) rfl

/-- The final response of an entry, put by in its element. -/
theorem Steady.finishLinked (h : Steady s) (hr : getAt s.tags t = .active r) (f : Element → Element) :
    Steady (Machine.leaveActive t .free (Machine.mapLinked r f s)) :=
  (h.mapLinked r f).leaveActive (r := r) (by simpa using hr) rfl

theorem EntryFits.receive (h : EntryFits r) (p : Arrived) (b : Bool) : EntryFits (r.receive p b) :=
  ⟨h.absorbed, h.confirmed⟩

theorem Steady.forwardData (h : Steady s) (hup : s.rqLink = .up) (hr : getAt s.tags t = .active r) (p : Arrived) :
    Steady (forwardData t r p s) := by
  unfold Machine.forwardData
  dsimp only
  split
  · exact h.forwardFinal hup hr _
  · exact (h.pushTraffic hup _).setTag_active hr rfl fun hf => hf.receive p true

theorem Steady.storeData (h : Steady s) (hr : getAt s.tags t = .active r) (p : Arrived) :
    Steady (storeData t r p s) := by
  have hr' : getAt (Machine.mapLinked r (fun e => { e with segs := e.segs ++ [p.segment] }) s).tags t = .active r := by
    simpa using hr
  unfold Machine.storeData
  dsimp only
  split
  · exact (h.mapLinked r _).finishLinked hr' _
  · exact (h.mapLinked r _).setTag_active hr' rfl fun hf => hf.receive p false

theorem Steady.takeData (h : Steady s) (hup : s.rqLink = .up) (hr : getAt s.tags t = .active r) (p : Arrived) :
    Steady (takeData t r p s) := by
  have hrep : ∀ u, u = (if p.poison then Machine.report .poisonedData (some .rs) (r.ident t) s else s) →
      Steady u ∧ u.tags = s.tags ∧ u.rqLink = .up := by
    rintro u rfl
    split
    · exact ⟨h.report _ _ _, by simp, by simpa using hup⟩
    · exact ⟨h, rfl, hup⟩
  obtain ⟨h1, htags, hup1⟩ := hrep _ rfl
  unfold Machine.takeData
  dsimp only
  split
  · exact h1.forwardData hup1 (htags ▸ hr) p
  · exact h1.storeData (htags ▸ hr) p

theorem Steady.takeDone (h : Steady s) (hr : getAt s.tags t = .active r) : Steady (takeDone t r s) := by
  unfold Machine.takeDone
  split
  · exact h.leaveActive hr rfl
  · next habs =>
    split
    · exact h.forwardFinal (h.rqUp_of_active hr (Bool.not_eq_true _ ▸ habs)) hr _
    · exact h.finishLinked hr _

theorem Steady.takeFail (h : Steady s) (hr : getAt s.tags t = .active r) (st : Status) :
    Steady (takeFail t r st s) := by
  unfold Machine.takeFail
  split
  · exact (h.report _ _ _).leaveActive (r := r) (by simpa using hr) rfl
  · next habs =>
    split
    · exact h.forwardFinal (h.rqUp_of_active hr (Bool.not_eq_true _ ▸ habs)) hr _
    · exact h.finishLinked hr _

theorem Steady.takeConsistent (h : Steady s) (hr : getAt s.tags t = .active r) {p : Arrived}
    (hc : p.inconsistent r = false) : Steady (takeConsistent t r p s) := by
  unfold Machine.takeConsistent
  split
  · next hk =>
    have habs : r.absorbed = false := Bool.eq_false_iff.mpr fun ha => by
      have := ((h.entries t r hr).absorbed ha).2
      simp [Arrived.inconsistent, hk, this] at hc
    exact h.takeData (h.rqUp_of_active hr habs) hr p
  · exact h.takeDone hr
  · split
    · exact h.takeFail hr _
    · exact h

theorem Steady.handlePacket (h : Steady s) (p : Arrived) : Steady (handlePacket p s) := by
  unfold Machine.handlePacket
  split
  · exact h.report _ _ _
  · next t _ =>
    split
    · exact h.report _ _ _
    · next q hq =>
      unfold takeLate
      dsimp only
      split
      · exact (h.report _ _ _).freeTag (by simp [hq, TagState.isActive])
      · exact h.report _ _ _
    · next r hr =>
      split
      · exact (h.report _ _ _).terminate t _ _
      · next hc => exact h.takeConsistent hr (Bool.not_eq_true _ ▸ hc)

theorem Steady.matcherTake (h : Steady s) : Steady (matcherTake s) := by
  unfold Machine.matcherTake
  split
  · exact h
  · next p rest hi => exact Steady.handlePacket (h.frame (by constructor <;> simp [hi])) p

/-! ### Draining (R94) -/

theorem Steady.markDelivered (h : Steady s) (e : Element) : Steady (markDelivered e s) := by
  unfold Machine.markDelivered setDelivered
  split
  · split
    · next r hr => exact h.setTag_active hr rfl fun hf => ⟨hf.absorbed, hf.confirmed⟩
    · exact h
  · exact h

theorem Steady.afterDrain (h : Steady s) (n : SourceId) (l : SlotId) (e : Element) : Steady (afterDrain n l e s) := by
  unfold Machine.afterDrain
  split
  · exact (h.removeElement n l).lowerCount n
  · exact (h.mapElement l _).markDelivered e

theorem Steady.drainHead (h : Steady s) (n : SourceId) : Steady (drainHead n s) := by
  unfold Machine.drainHead
  split
  · exact h
  · next l hl =>
    have hup := h.rqUp_of_not_idle fun hi => by simp [State.headSlot, hi.lists n] at hl
    split
    · exact h
    · split
      · exact h
      · exact (h.pushTraffic hup _).afterDrain n l _

/-! ### The head (R23, R24, R42) -/

/-- A head that is NEW asks nothing of the queue but its marks. -/
theorem headSound_of_new (hp : s.headPhase = .new) (hm : ∀ w ∈ s.forwardQueue, w.mark = true → w.req.kind ≠ .write)
    (hh : s.opState = .halted → ∀ w ∈ s.forwardQueue, w.mark = true) : HeadSound s where
  empty _ := hp
  marked := hm
  halted := hh
  answering _ _ _ _ hc := nomatch hp.symm.trans hc
  unmarked _ _ _ _ hc := nomatch hp.symm.trans hc
  cls _ _ _ _ hc := nomatch hp.symm.trans hc
  ordered _ _ _ _ hc := nomatch hp.symm.trans hc
  reservation _ _ _ _ hc := nomatch hp.symm.trans hc
  room _ _ _ _ hc := nomatch hp.symm.trans hc

/-- A head that is to be answered is no WRITE. -/
theorem headSound_of_answering {w : Waiting} {rest : List Waiting} {st : Status} (hq : s.forwardQueue = w :: rest)
    (hp : s.headPhase = .answering st) (hk : w.req.kind ≠ .write)
    (hm : ∀ w ∈ s.forwardQueue, w.mark = true → w.req.kind ≠ .write)
    (hh : s.opState = .halted → ∀ w ∈ s.forwardQueue, w.mark = true) : HeadSound s where
  empty hn := nomatch hn.symm.trans hq
  marked := hm
  halted := hh
  answering v _ _ hv _ := by
    obtain ⟨rfl, -⟩ := List.cons.inj (hq.symm.trans hv)
    exact hk
  unmarked _ _ _ _ hc := nomatch hp.symm.trans hc
  cls _ _ _ _ hc := nomatch hp.symm.trans hc
  ordered _ _ _ _ hc := nomatch hp.symm.trans hc
  reservation _ _ _ _ hc := nomatch hp.symm.trans hc
  room _ _ _ _ hc := nomatch hp.symm.trans hc

/-- The Forward Queue and its head's phase change; nothing joins the queue of a DOWN port. -/
theorem Steady.requeue (h : Steady s) {q : List Waiting} {p : HeadPhase}
    (hs : HeadSound { s with forwardQueue := q, headPhase := p })
    (hq : s.rqLink = .down → s.forwardQueue = [] → q = []) :
    Steady { s with forwardQueue := q, headPhase := p } where
  head := hs
  states := h.states.frame rfl rfl fun _ => rfl
  rq hd := { h.rq hd with forward := hq hd (h.rq hd).forward }
  rs hd := { h.rs hd with }
  alerts := h.alerts.frame rfl
  entries := h.entries
  records := h.records

/-- The queue shortens and its head starts NEW. -/
theorem Steady.dequeue (h : Steady s) {q : List Waiting} (hq : q ⊆ s.forwardQueue) :
    Steady { s with forwardQueue := q, headPhase := .new } :=
  h.requeue (headSound_of_new rfl (fun w hw => h.head.marked w (hq hw)) fun ho w hw => h.head.halted ho w (hq hw))
    fun _ hn => List.subset_nil.mp (hn ▸ hq)

theorem Steady.removeHead (h : Steady s) : Steady (removeHead s) :=
  (h.dequeue (List.tail_subset _)).returnRqCredits _ _

/-- The head is to be answered. -/
theorem Steady.setAnswering (h : Steady s) {w : Waiting} {rest : List Waiting} (hq : s.forwardQueue = w :: rest)
    (hk : w.req.kind ≠ .write) (st : Status) : Steady (setPhase (.answering st) s) :=
  h.requeue (headSound_of_answering hq rfl hk h.head.marked h.head.halted) fun _ => id

theorem Steady.linkDownHead (h : Steady s) {w : Waiting} {rest : List Waiting} (hq : s.forwardQueue = w :: rest)
    {cls : IssueClass} (hc : cls = .nonPosted → w.req.kind ≠ .write) : Steady (linkDownHead w.req cls s) := by
  cases cls with
  | nonPosted => exact h.setAnswering hq (hc rfl) _
  | absorbed => exact (h.report _ _ _).removeHead
  | plainPosted => exact (h.report _ _ _).removeHead

theorem Steady.linkDownClassified (h : Steady s) : Steady (linkDownClassified s) := by
  unfold Machine.linkDownClassified
  split
  · next w rest c hq hp =>
    split
    · exact h.linkDownHead hq (h.head.cls w rest c hq hp).mp
    · exact h
  · exact h

/-! ### The producers and the ring (R131) -/

theorem Steady.placeAnswer (h : Steady s) : Steady (placeAnswer s) := by
  unfold Machine.placeAnswer
  split
  · next w rest st hq hp =>
    have hup := h.rqUp_of_not_idle fun hi => nomatch hq.symm.trans hi.forward
    exact (h.pushTraffic hup _).removeHead
  · exact h

theorem Steady.placeBacklog (h : Steady s) : Steady (placeBacklog s) := by
  unfold Machine.placeBacklog
  split
  · exact h
  · next a rest hb =>
    have hup := h.rqUp_of_not_idle fun hi => nomatch hb.symm.trans hi.backlog
    exact h.frame (by constructor <;> simp [hup])

theorem Steady.placeMalformed (h : Steady s) : Steady (placeMalformed s) := by
  unfold Machine.placeMalformed
  split
  · exact h
  · next a rest hm =>
    have hup := h.rqUp_of_not_idle fun hi => nomatch hm.symm.trans hi.malformed
    exact h.frame (by constructor <;> simp [hup])

theorem Steady.serve (h : Steady s) (p : Producer) : Steady (serve p s) := by
  cases p with
  | malformedList => exact h.placeMalformed
  | dispatch => exact h.placeAnswer
  | backlog => exact h.placeBacklog
  | matcher => exact h.matcherTake
  | drain n => exact h.drainHead n

theorem Steady.placeDirect (h : Steady s) (p : Producer) : Steady (placeDirect p s) := by
  unfold Machine.placeDirect
  split
  · exact h.serve p
  · exact h

theorem Steady.serveAt (h : Steady s) (p : Fin 36) : Steady (serveAt p s) :=
  (h.serve (Producer.at p)).frame (by constructor <;> simp [Machine.serveAt]) rfl le_rfl

theorem Steady.distribute (h : Steady s) (before : State) : Steady (distribute before s) := by
  refine Steady.foldl (fun s p hs => ?_) h _
  split
  · exact hs.serveAt p
  · exact hs

theorem Steady.givePlace (h : Steady s) : Steady (givePlace s) := by
  unfold Machine.givePlace
  split
  · exact h.serveAt _
  · exact h

/-! ### Transmission (R132, R163) -/

theorem Steady.sendRq (h : Steady s) (ws : List Word) : Steady (sendRq ws s) :=
  h.frame (by constructor <;> simp +contextual [Machine.sendRq]) (by simp [Machine.sendRq]) (by simp [Machine.sendRq])

theorem Steady.transmitTraffic (h : Steady s) : Steady (transmitTraffic s) := by
  unfold Machine.transmitTraffic
  split
  · exact h
  · next r rest ht =>
    have h1 := Steady.sendRq (h.frame (u := { s with trafficQueue := rest }) (by constructor <;> simp [ht]))
      (packResponse r)
    dsimp only
    split
    · exact h1
    · exact h1.givePlace

/-- An ALERT has left its slot; the class's state does not change (R163). -/
theorem classSound_sent {a : AlertUnit} (h : ∀ d, ClassSound (a.cls d)) (c d : Severity) :
    ClassSound ((a.sent c).cls d) :=
  classSound_setCls (x := { a.cls c with slot := none }) h
    ⟨fun hi => ⟨((h c).idle hi).1, rfl⟩, (h c).told, fun _ hs => nomatch hs⟩ d

/-- The Alert Unit changes to a sound one. -/
theorem Steady.setAlert (h : Steady s) {a : AlertUnit} (ha : ∀ d, ClassSound (a.cls d)) :
    Steady { s with alert := a } :=
  h.moved (by constructor <;> simp) ((alertsSound_iff _).mpr ha) h.records

theorem Steady.transmit (h : Steady s) : Steady (transmit s) := by
  unfold Machine.transmit
  split
  · exact (h.setAlert (classSound_sent ((alertsSound_iff s).mp h.alerts) _)).sendRq _
  · split
    · next r rest hm =>
      exact Steady.sendRq (h.frame (u := { s with mgmtSlots := rest }) (by constructor <;> simp [hm])) _
    · exact h.transmitTraffic

end

end Sys2Proof.Machine
end

section
/-! PROOF. Classification, issue and the teardowns keep the head, the operating state, the links and the alert classes
sound. -/

namespace Sys2Proof.Machine

section

variable {s : State}

/-! ### Classification (R26 to R35) -/

theorem classify_passed {req : Request} {c : Classified} (h : s.classify req = .passed c) :
    ∃ i, c = s.passResult req i ∧
      (req.kind ≠ .write → (getAt s.sources req.source).count < (getAt s.sources req.source).quota.toNat) := by
  unfold State.classify at h
  dsimp only at h
  split at h
  · exact nomatch h
  split at h
  · exact nomatch h
  next i _ =>
  split at h
  · exact nomatch h
  split at h
  · exact nomatch h
  split at h
  · exact nomatch h
  split at h
  · exact nomatch h
  next hquota =>
  refine ⟨i, (Verdict.passed.inj h).symm, fun hk => ?_⟩
  simpa [hk] using hquota

theorem issueClass_nonPosted (w : Window) (k : ReqKind) : w.issueClass k = .nonPosted ↔ k ≠ .write := by
  cases k <;> simp [Window.issueClass]
  split <;> simp

theorem planFits_passResult (s : State) (req : Request) (i : Fin 16) : PlanFits req (s.passResult req i) where
  cls := issueClass_nonPosted _ _
  ordered h := (by simpa [State.passResult] using h : _ ∧ _).1
  reservation := by simp [State.passResult]

/-- A head CLASSIFIED where nothing keeps it from that. -/
theorem Steady.setClassified (h : Steady s) {w : Waiting} {rest : List Waiting} (hq : s.forwardQueue = w :: rest)
    (hm : w.mark = false) (ho : s.opState ≠ .halted) {c : Classified} (hp : PlanFits w.req c)
    (hc : c.cls = .nonPosted → (getAt s.sources w.req.source).count < 16) : Steady (setPhase (.classified c) s) := by
  have hhead : ∀ {v rest' c'}, s.forwardQueue = v :: rest' → HeadPhase.classified c = .classified c' →
      v = w ∧ c' = c := fun hv hc => ⟨(List.cons.inj (hv.symm.trans hq)).1, (HeadPhase.classified.inj hc).symm⟩
  refine h.requeue ?_ fun _ => id
  exact
    { empty := fun hn => nomatch hn.symm.trans hq
      marked := h.head.marked
      halted := h.head.halted
      answering := fun _ _ _ _ ha => nomatch ha
      unmarked := fun _ _ _ hv hc => by obtain ⟨rfl, rfl⟩ := hhead hv hc; exact ⟨hm, ho⟩
      cls := fun _ _ _ hv hc => by obtain ⟨rfl, rfl⟩ := hhead hv hc; exact hp.cls
      ordered := fun _ _ _ hv hc => by obtain ⟨rfl, rfl⟩ := hhead hv hc; exact hp.ordered
      reservation := fun _ _ _ hv hc => by obtain ⟨rfl, rfl⟩ := hhead hv hc; exact hp.reservation
      room := fun _ _ _ hv hcl => by obtain ⟨rfl, rfl⟩ := hhead hv hcl; exact hc }

theorem Steady.refuseHead (h : Steady s) {w : Waiting} {rest : List Waiting} (hq : s.forwardQueue = w :: rest)
    (k : ErrorKind) (st : Status) : Steady (refuseHead w.req k st s) := by
  unfold Machine.refuseHead
  dsimp only
  split
  · exact (h.report _ _ _).removeHead
  · next hk => exact (h.report _ _ _).setAnswering (w := w) (rest := rest) (by simpa using hq) hk st

theorem Steady.classifyHead (h : Steady s) (hquota : ∀ n, (getAt s.sources n).quota.toNat ≤ 16) {w : Waiting}
    {rest : List Waiting} (hq : s.forwardQueue = w :: rest) (hm : w.mark = false) (ho : s.opState = .run) :
    Steady (classifyHead w.req s) := by
  unfold Machine.classifyHead
  split
  · exact h.refuseHead hq _ _
  · next c hc =>
    obtain ⟨i, rfl, hcount⟩ := classify_passed hc
    have hp := planFits_passResult s w.req i
    split
    · exact h.linkDownHead hq hp.cls.mp
    · exact h.setClassified hq hm (by simp [ho]) hp fun hn => (hcount (hp.cls.mp hn)).trans_le (hquota _)

theorem Steady.takeUpHead (h : Steady s) (hquota : ∀ n, (getAt s.sources n).quota.toNat ≤ 16) :
    Steady (takeUpHead s) := by
  unfold Machine.takeUpHead
  split
  · exact h
  · next w rest hq =>
    have hanswer : w.mark = true → Steady (Machine.setPhase (.answering .halted) s) := fun hm =>
      h.setAnswering hq (h.head.marked w (by simp [hq]) hm) _
    split
    · exact h
    · split
      · next hm => exact hanswer hm
      · exact h.linkDownClassified
    · split
      · next hm => exact hanswer hm
      · next hm =>
        split
        · next ho => exact h.classifyHead hquota hq (Bool.not_eq_true _ ▸ hm) ho
        · exact h

/-! ### Issue (R37 to R41) -/

/-- What a head that can be issued is (R25, R37). -/
theorem issuable_eq_some_iff {req : Request} {c : Classified} {g : Grant} :
    s.issuable = some (req, c, g) ↔
      ∃ w rest, s.forwardQueue = w :: rest ∧ s.headPhase = .classified c ∧ w.mark = false ∧ s.opState = .run ∧
        s.rsLink = .up ∧ w.req = req ∧ s.grant c = some g := by
  unfold State.issuable
  constructor
  · intro h
    split at h
    · next w rest c' hq hp =>
      split at h
      · next hc =>
        obtain ⟨g', hg, he⟩ := Option.map_eq_some_iff.mp h
        simp only [Prod.mk.injEq] at he
        obtain ⟨rfl, rfl, rfl⟩ := he
        simp only [Bool.and_eq_true, Bool.not_eq_true', decide_eq_true_eq] at hc
        obtain ⟨⟨hm, ho⟩, hl⟩ := hc
        exact ⟨w, rest, hq, hp, hm, ho, hl, rfl, hg⟩
      · exact nomatch h
    · exact nomatch h
  · rintro ⟨w, rest, hq, hp, hm, ho, hl, rfl, hg⟩
    simp [hq, hp, hm, ho, hl, hg]

theorem issueWith_head (req : Request) (c : Classified) (s : State) (g : Grant) :
    (issueWith req c s g).forwardQueue = s.forwardQueue.tail ∧ (issueWith req c s g).headPhase = .new := by
  cases g <;> simp [issueWith, removeHead]

theorem Steady.issueWith (h : Steady s) {req : Request} {c : Classified} {g : Grant}
    (hi : s.issuable = some (req, c, g)) : Upheld (issueWith req c s g) := by
  obtain ⟨w, rest, hq, -, -, ho, hl, -, -⟩ := issuable_eq_some_iff.mp hi
  obtain ⟨hfq, hph⟩ := issueWith_head req c s g
  have hup := h.rqUp_of_not_idle fun hi => nomatch hq.symm.trans hi.forward
  exact
    { head := headSound_of_new hph (by rw [hfq]; exact fun v hv => h.head.marked v (List.mem_of_mem_tail hv))
        (by simp [ho])
      states := ⟨by simp [ho], by simp [ho], by simp [ho]⟩
      links := (linksSound_iff _).mpr ⟨by simp [hup], by simp [hl]⟩
      alerts := h.alerts.frame (by simp) }

theorem Steady.issueNow (h : Steady s) : Upheld (issueNow s) := by
  unfold Machine.issueNow
  split
  · next hi => exact h.issueWith hi
  · exact h.upheld

theorem Steady.issueAfter (h : Steady s) (before : State) : Upheld (issueAfter before s) := by
  unfold Machine.issueAfter
  split
  · exact h.issueNow
  · exact h.upheld

/-! ### The teardowns (R43, R134, R136) -/

theorem activeTags_eq_zero (h : ∀ t r, getAt s.tags t ≠ .active r) : s.activeTags = 0 := by
  rw [activeTags_eq_tally]
  refine tally_eq_zero fun t => ?_
  cases hx : getAt s.tags t with
  | active r => exact absurd hx (h t r)
  | free => rfl
  | quarantined q => rfl

theorem not_active_of_terminateAll (ans : Option Status) (dest : TagDest) (s : State) (t : PoolTag) (r : ActiveRec) :
    getAt (terminateAll (fun _ => true) ans dest s).tags t ≠ .active r :=
  fun hr => nomatch (active_of_terminateAll hr).2

theorem isQuarantined_of_freeQuarantined (s : State) (t : PoolTag) :
    (getAt (freeQuarantined s).tags t).isQuarantined = false := by
  suffices H : ∀ (l : List PoolTag) (s : State), t ∈ l ∨ (getAt s.tags t).isQuarantined = false →
      (getAt (l.foldl (fun s t => if (getAt s.tags t).isQuarantined then setTag t .free s else s) s).tags
        t).isQuarantined = false from H _ s (.inl (List.mem_finRange t))
  intro l
  induction l with
  | nil => exact fun s h => h.resolve_left List.not_mem_nil
  | cons g l ih =>
    intro s h
    refine ih _ ?_
    by_cases hg : g = t
    · subst hg
      right
      dsimp only
      split
      · rw [getAt_tags_setTag, if_pos rfl]; rfl
      · next hn => exact Bool.not_eq_true _ ▸ hn
    · rcases h with h | h
      · exact .inl ((List.mem_cons.mp h).resolve_left (Ne.symm hg))
      · right
        dsimp only
        split
        · rw [getAt_tags_setTag, if_neg hg]; exact h
        · exact h

/-- With every tag ended and every quarantine lifted, every tag is FREE. -/
theorem free_of_freeQuarantined (ans : Option Status) (dest : TagDest) (s : State) (t : PoolTag) :
    getAt (freeQuarantined (terminateAll (fun _ => true) ans dest s)).tags t = .free := by
  have hq := isQuarantined_of_freeQuarantined (terminateAll (fun _ => true) ans dest s) t
  cases hx : getAt (freeQuarantined (terminateAll (fun _ => true) ans dest s)).tags t with
  | free => rfl
  | active r => exact absurd (active_of_freeQuarantined hx) (not_active_of_terminateAll ans dest s t r)
  | quarantined q => rw [hx] at hq; exact nomatch hq

theorem terminate_none_trafficQueue (t : PoolTag) (dest : TagDest) (s : State) :
    (terminate t none dest s).trafficQueue = s.trafficQueue := by
  unfold terminate answerEntry
  repeat' split
  all_goals simp_all

theorem terminateAll_none_trafficQueue (which : ActiveRec → Bool) (dest : TagDest) (s : State) :
    (terminateAll which none dest s).trafficQueue = s.trafficQueue := by
  refine foldl_keeps (f := State.trafficQueue) (fun s t => ?_) _ s
  split
  · split
    · exact terminate_none_trafficQueue _ _ _
    · rfl
  · rfl

theorem classSound_linkLoss (a : AlertUnit) (d : Severity) : ClassSound (a.linkLoss.cls d) := by
  cases d with
  | fatal => exact classSound_toIdle _
  | nonfatal => exact classSound_toIdle _
  | advisory => exact classSound_toIdle _

theorem Steady.rqTeardown (h : Steady s) : Steady (rqTeardown s) := by
  unfold Machine.rqTeardown
  dsimp only
  generalize hs1 : ({ s with
      rqLink := .down, rqCredits := 0, forwardQueue := [], headPhase := .new, mgmtQueue := [], mgmtSlots := [],
      trafficQueue := [], malformedList := [] } : State) = s1
  have m := entryMove_terminateAll ActiveRec.counted none .quarantined s1
  have htags : ∀ t r, getAt (Machine.terminateAll ActiveRec.counted none .quarantined s1).tags t = .active r →
      getAt s.tags t = .active r ∧ r.absorbed = true := fun t r hr => by
    obtain ⟨hr, hw⟩ := active_of_terminateAll hr
    exact ⟨by subst hs1; exact hr, by simpa [ActiveRec.counted] using hw⟩
  have htraffic := terminateAll_none_trafficQueue ActiveRec.counted .quarantined s1
  have hstates := m.states (hs1 ▸ h.states.frame rfl rfl fun _ => rfl)
  have hrs : s1.rsLink = .down → RsIdle s1 := by
    subst hs1
    exact fun hd => { h.rs hd with }
  exact
    { head := headSound_of_new (by simp [← hs1]) (by simp [← hs1]) (by simp [← hs1])
      states := hstates.frame (by simp) (activeTags_congr (by simp)) (by simp)
      rq := fun _ =>
        { credits := by simp [← hs1]
          forward := by simp [← hs1]
          management := by simp [← hs1]
          answers := by simp [← hs1]
          traffic := by simpa [← hs1] using htraffic
          malformed := by simp [← hs1]
          backlog := rfl
          lists := fun n => getAt_fillTable 32 _ n
          absorbed := fun t r hr => (htags t r (by simpa using hr)).2 }
      rs := fun hd =>
        have hi := m.rs (hrs (by simpa using hd))
        { credits := by simpa using hi.credits
          ingress := by simpa using hi.ingress
          tags := by simpa using hi.tags }
      alerts := (alertsSound_iff _).mpr (classSound_linkLoss _)
      entries := fun t r hr => h.entries t r (htags t r (by simpa using hr)).1
      records := by simpa [← hs1] using h.records }

theorem Steady.rqDown (h : Steady s) : Steady (rqDown s) := h.rqTeardown.report _ _ _

theorem Steady.rsTeardown (h : Steady s) : Steady (rsTeardown s) := by
  unfold Machine.rsTeardown
  refine Steady.linkDownClassified ?_
  generalize hs1 : ({ s with rsLink := .down, rsCredits := 0, ingress := [] } : State) = s1
  have m := (entryMove_terminateAll (fun _ => true) (some .linkDown) .free s1).trans (entryMove_freeQuarantined _)
  have hfree := free_of_freeQuarantined (some .linkDown) .free s1
  subst hs1
  exact
    { head := (h.head.frame (u := { s with rsLink := .down, rsCredits := 0, ingress := [] }) rfl rfl id
        fun _ => le_rfl).frame m.forwardQueue m.headPhase m.halted.mp m.count
      states := m.states (h.states.frame rfl rfl fun _ => rfl)
      rq := fun hd => m.rq { h.rq (m.rqLink.symm.trans hd) with }
      rs := fun _ => ⟨by simp, by simp, hfree⟩
      alerts := (h.alerts.frame (u := { s with rsLink := .down, rsCredits := 0, ingress := [] }) rfl).frame m.alert
      entries := m.entries h.entries
      records := by rw [m.err]; exact h.records }

theorem Steady.rsDown (h : Steady s) : Steady (rsDown s) := (h.rsTeardown.report _ _ _).distribute s

theorem mem_markHalted {q : List Waiting} {w : Waiting} (h : w ∈ markHalted q) :
    w.mark = true ∧ w.req.kind ≠ .write := by
  obtain ⟨v, hv, rfl⟩ := List.mem_map.mp h
  exact ⟨rfl, by simpa using (List.mem_filter.mp hv).2⟩

theorem headSound_haltQueue (s : State) : HeadSound (haltQueue s) := by
  have hq : (haltQueue s).forwardQueue = markHalted s.forwardQueue := by simp [haltQueue]
  have hph : (haltQueue s).headPhase = haltPhase s.forwardQueue s.headPhase := by simp [haltQueue]
  have hm : ∀ w ∈ (haltQueue s).forwardQueue, w.mark = true → w.req.kind ≠ .write := fun w hw _ =>
    (mem_markHalted (hq ▸ hw)).2
  have hh : (haltQueue s).opState = .halted → ∀ w ∈ (haltQueue s).forwardQueue, w.mark = true := fun _ w hw =>
    (mem_markHalted (hq ▸ hw)).1
  cases hfq : s.forwardQueue with
  | nil => exact headSound_of_new (by rw [hph, hfq]; rfl) hm hh
  | cons w rest =>
    by_cases hk : w.req.kind = .write
    · exact headSound_of_new (by rw [hph, hfq]; exact if_pos hk) hm hh
    · have hrest : (haltQueue s).forwardQueue = { w with mark := true } :: markHalted rest := by
        rw [hq, hfq]; simp [markHalted, hk]
      have hanswer : (haltQueue s).headPhase = .answering .halted → HeadSound (haltQueue s) := fun ha =>
        headSound_of_answering hrest ha hk hm hh
      rw [hfq] at hph
      cases hs : s.headPhase with
      | new => exact headSound_of_new (by simp [hph, haltPhase, hk, hs]) hm hh
      | classified c => exact hanswer (by simp [hph, haltPhase, hk, hs])
      | answering st => exact hanswer (by simp [hph, haltPhase, hk, hs])

theorem Steady.haltTeardown (h : Steady s) (hr : s.haltRequested = false) : Steady (haltTeardown s) := by
  refine Steady.distribute ?_ s
  have m := entryMove_terminateAll (fun _ => true) (some .halted) .quarantined { s with opState := .halted }
  have hnone := not_active_of_terminateAll (some .halted) .quarantined { s with opState := .halted }
  have hwait : (Machine.terminateAll (fun _ => true) (some .halted) .quarantined
      { s with opState := .halted }).haltRequested = false := by simpa using hr
  generalize Machine.terminateAll (fun _ => true) (some .halted) .quarantined { s with opState := .halted } = v
    at m hnone hwait
  have hhalt : v.opState = .halted := m.halted.mpr rfl
  exact
    { head := headSound_haltQueue v
      states := ⟨fun _ => (activeTags_congr (by simp)).trans (activeTags_eq_zero hnone), by simp [hhalt],
        fun _ => by simpa using hwait⟩
      rq := fun hd =>
        have hi : RqIdle v := m.rq { h.rq (m.rqLink.symm.trans (by simpa using hd)) with }
        { credits := by simpa using hi.credits
          forward := by simp [haltQueue, hi.forward, markHalted]
          management := by simpa using hi.management
          answers := by simpa using hi.answers
          traffic := by simpa using hi.traffic
          malformed := by simpa using hi.malformed
          backlog := by simpa using hi.backlog
          lists := by simpa using hi.lists
          absorbed := by simpa using hi.absorbed }
      rs := fun hd =>
        have hi : RsIdle v := m.rs { h.rs (m.rsLink.symm.trans (by simpa using hd)) with }
        ⟨by simpa using hi.credits, by simpa using hi.ingress, by simpa using hi.tags⟩
      alerts := (h.alerts.frame (u := v) m.alert).frame (by simp)
      entries := by simpa using m.entries h.entries
      records := by simpa [m.err] using h.records }

end

end Sys2Proof.Machine
end

section
/-! PROOF. HALT, FLUSH_SOURCE and SOFT_RESET keep `Steady`. -/

namespace Sys2Proof.Machine

section

variable {s u : State}

/-! ### HALT, FLUSH_SOURCE and SOFT_RESET (R176, R180, R182) -/

theorem Steady.takeHalt (h : Steady s) : Steady (takeHalt s) := by
  have h1 : Steady { s with haltRequested := false } :=
    h.frame (by constructor <;> simp +contextual [h.states.halted])
  unfold Machine.takeHalt
  split
  · dsimp only
    split
    · exact h1
    · exact h1.haltTeardown rfl
  · exact h

theorem headSound_flushQueue (h : HeadSound s) (n : SourceId) :
    HeadSound { s with
      forwardQueue := s.forwardQueue.filter fun w => decide (w.req.source ≠ n)
      headPhase := flushPhase n s.forwardQueue s.headPhase } := by
  have hm : ∀ w ∈ s.forwardQueue.filter fun w => decide (w.req.source ≠ n), w.mark = true → w.req.kind ≠ .write :=
    fun w hw => h.marked w (List.mem_of_mem_filter hw)
  have hh : s.opState = .halted → ∀ w ∈ s.forwardQueue.filter fun w => decide (w.req.source ≠ n), w.mark = true :=
    fun ho w hw => h.halted ho w (List.mem_of_mem_filter hw)
  cases hq : s.forwardQueue with
  | nil => exact headSound_of_new rfl (fun w hw => nomatch hw) fun _ w hw => nomatch hw
  | cons w rest =>
    rw [hq] at hm hh
    by_cases hn : w.req.source = n
    · exact headSound_of_new (if_pos hn) hm hh
    · have hp : flushPhase n (w :: rest) s.headPhase = s.headPhase := if_neg hn
      have hhead : ∀ {v more}, (w :: rest).filter (fun w => decide (w.req.source ≠ n)) = v :: more →
          s.forwardQueue = v :: rest := fun hv => by
        rw [List.filter_cons_of_pos (by simpa using hn)] at hv
        rw [hq, (List.cons.inj hv).1]
      rw [hp]
      exact
        { empty := fun he => by rw [List.filter_cons_of_pos (by simpa using hn)] at he; exact nomatch he
          marked := hm
          halted := hh
          answering := fun v _ st hv => h.answering v rest st (hhead hv)
          unmarked := fun v _ c hv => h.unmarked v rest c (hhead hv)
          cls := fun v _ c hv => h.cls v rest c (hhead hv)
          ordered := fun v _ c hv => h.ordered v rest c (hhead hv)
          reservation := fun v _ c hv => h.reservation v rest c (hhead hv)
          room := fun v _ c hv => h.room v rest c (hhead hv) }

theorem Steady.mapCount_zero (h : Steady s) (n : SourceId) : Steady (mapCount n (fun _ => 0) s) := by
  refine h.frame ?_
  constructor
  case count =>
    intro m
    rw [count_mapCount]
    split
    · exact Nat.zero_le _
    · exact le_rfl
  all_goals simp

theorem Steady.flushSource (h : Steady s) (n : SourceId) : Steady (flushSource n s) := by
  have h1 : Steady (flushQueue n s) :=
    (h.requeue (headSound_flushQueue h.head n) fun _ hn => by simp [hn]).returnRqCredits _ _
  have h2 := (entryMove_terminateAll (fun r => r.counted && decide (r.source = n)) none .quarantined _).steady h1
  have h3 : Steady (flushList n _) := Steady.foldl (fun s l hs => hs.removeElement n l) h2 _
  exact Steady.mapCount_zero (h3.frame (by constructor <;> simp +contextual)) n

theorem Steady.clearCounts (h : Steady s) : Steady (clearCounts s) :=
  Steady.foldl (fun _ n hs => hs.mapCount_zero n) h _

theorem Steady.clearLists (h : Steady s) : Steady (clearLists s) :=
  h.frame (by constructor <;> simp [Machine.clearLists])

theorem Steady.softReset (h : Steady s) : Steady (softReset s) := by
  have h1 := Steady.returnRqCredits (h.dequeue (List.nil_subset _)) .ordinary s.forwardQueue.length
  have h2 := ((entryMove_terminateAll (fun _ => true) none .free _).trans (entryMove_freeQuarantined _)).steady h1
  have hfree := free_of_freeQuarantined none .free
    (Machine.returnRqCredits .ordinary s.forwardQueue.length { s with forwardQueue := [], headPhase := .new })
  have hnew : (Machine.freeQuarantined (Machine.terminateAll (fun _ => true) none .free
      (Machine.returnRqCredits .ordinary s.forwardQueue.length
        { s with forwardQueue := [], headPhase := .new }))).forwardQueue = [] := by simp
  unfold Machine.softReset
  dsimp only
  generalize Machine.freeQuarantined (Machine.terminateAll (fun _ => true) none .free
    (Machine.returnRqCredits .ordinary s.forwardQueue.length { s with forwardQueue := [], headPhase := .new })) = s2
    at h2 hfree hnew
  have h3 := Steady.clearLists (Steady.clearCounts (h2.frame (u := { s2 with backlog := [] })))
  generalize hs3 : Machine.clearLists (Machine.clearCounts { s2 with backlog := [] }) = s3 at h3
  have h4 := Steady.returnRsCredits (h3.frame (u := { s3 with ingress := [] })) s3.ingress.length
  generalize hs4 : Machine.returnRsCredits s3.ingress.length { s3 with ingress := [] } = s4 at h4
  have htags : s4.tags = s2.tags := by simp [← hs4, ← hs3]
  have hidle : s4.activeTags = 0 := activeTags_eq_zero fun t r hr => nomatch (htags ▸ hr).symm.trans (hfree t)
  have hq : s4.forwardQueue = [] := by simpa [← hs4, ← hs3] using hnew
  have h5 : Steady { s4 with trafficQueue := [], malformedList := [] } := h4.frame
  refine Steady.foldl (fun u a hu => hu.returnRqCredits a.pool 1) ?_ _
  exact
    { h5 with
      head := headSound_of_new (h4.head.empty hq) (by simp [hq]) (by simp [hq])
      states := ⟨fun _ => hidle, nofun, nofun⟩
      rq := fun hd => { h5.rq hd with }
      rs := fun hd => { h5.rs hd with }
      alerts := h4.alerts.frame rfl }

end

end Sys2Proof.Machine
end

section
/-! PROOF. What arrives on the ports, the management rows and the clock keep the head, the operating state, the links
and the alert classes sound: the family's statement about every step. -/

namespace Sys2Proof.Machine

open Host (Outcome)

section

variable {s u : State}

/-! ### What arrives on the two ports (R120 to R129) -/

theorem Steady.takeMalformed (h : Steady s) (hup : s.rqLink = .up) (r : Request) (p : PoolCode) :
    Steady (takeMalformed r p s) := by
  have h1 := h.report .malformedRequest (some .rq) r.ident
  have hup1 : (Machine.report .malformedRequest (some .rq) r.ident s).rqLink = .up := by simpa using hup
  unfold Machine.takeMalformed answerMalformed
  dsimp only
  split
  · exact h1.returnRqCredits p 1
  · split
    · exact (h1.pushTraffic hup1 _).returnRqCredits p 1
    · exact h1.frame (by constructor <;> simp [hup])

/-- A request joins the Forward Queue, its halt mark set in HALTED (R43, R128). -/
theorem headSound_join (h : HeadSound s) {r : Request} (hk : s.opState = .halted → r.kind ≠ .write) :
    HeadSound { s with forwardQueue := s.forwardQueue ++ [{ req := r, mark := decide (s.opState = .halted) }] } := by
  have hmem : ∀ w ∈ s.forwardQueue ++ [({ req := r, mark := decide (s.opState = .halted) } : Waiting)],
      w ∈ s.forwardQueue ∨ w = { req := r, mark := decide (s.opState = .halted) } := fun w hw =>
    (List.mem_append.mp hw).imp_right List.mem_singleton.mp
  have hm : ∀ w ∈ s.forwardQueue ++ [({ req := r, mark := decide (s.opState = .halted) } : Waiting)],
      w.mark = true → w.req.kind ≠ .write := fun w hw hmark => by
    rcases hmem w hw with hw | rfl
    · exact h.marked w hw hmark
    · exact hk (of_decide_eq_true hmark)
  have hh : s.opState = .halted → ∀ w ∈ s.forwardQueue ++
      [({ req := r, mark := decide (s.opState = .halted) } : Waiting)], w.mark = true := fun ho w hw => by
    rcases hmem w hw with hw | rfl
    · exact h.halted ho w hw
    · exact decide_eq_true ho
  cases hq : s.forwardQueue with
  | nil =>
    rw [hq] at hm hh
    exact headSound_of_new (h.empty hq) hm hh
  | cons v rest =>
    rw [hq] at hm hh
    have hhead : ∀ {w x more}, v :: rest ++ x = w :: more → s.forwardQueue = w :: rest := fun hw => by
      rw [hq, (List.cons.inj hw).1]
    exact
      { empty := fun he => nomatch he
        marked := hm
        halted := hh
        answering := fun w _ st hw => h.answering w rest st (hhead hw)
        unmarked := fun w _ c hw => h.unmarked w rest c (hhead hw)
        cls := fun w _ c hw => h.cls w rest c (hhead hw)
        ordered := fun w _ c hw => h.ordered w rest c (hhead hw)
        reservation := fun w _ c hw => h.reservation w rest c (hhead hw)
        room := fun w _ c hw => h.room w rest c (hhead hw) }

theorem Steady.sortRequest (h : Steady s) (hup : s.rqLink = .up) (r : Request) (p : PoolCode) :
    Steady (sortRequest r p s) := by
  unfold Machine.sortRequest joinForward
  split
  · exact h.frame (by constructor <;> simp [hup])
  · split
    · exact (h.report _ _ _).returnRqCredits _ _
    · next hk =>
      exact h.requeue (p := s.headPhase) (headSound_join h.head fun ho hw => hk ⟨ho, hw⟩) fun hd =>
        nomatch hup.symm.trans hd

theorem Steady.admitRq (h : Steady s) (hup : s.rqLink = .up) (p : PoolCode) (words : List Word) (check : BitVec 16) :
    Steady (admitRq p words check s) := by
  have hkind : ∀ ws, Steady (failKind p ws s) := fun ws => (h.returnRqCredits p 1).report _ _ _
  unfold Machine.admitRq
  split
  · exact h.report _ _ _
  · split
    · unfold takeRqPacket
      split
      · split
        · dsimp only
          split
          · exact h.takeMalformed hup _ p
          · exact h.sortRequest hup _ p
        · exact hkind _
      · exact hkind _
    · exact (h.returnRqCredits p 1).report _ _ _

theorem Steady.admitRs (h : Steady s) (hup : s.rsLink = .up) (words : List Word) (check : BitVec 16) :
    Steady (admitRs words check s) := by
  have hformat : ∀ ws, Steady (failFormat ws s) := fun ws => (h.returnRsCredits 1).report _ _ _
  unfold Machine.admitRs
  split
  · exact h.report _ _ _
  · split
    · unfold takeRsPacket
      split
      · exact hformat _
      · split
        · exact hformat _
        · split
          · exact hformat _
          · exact h.frame (by constructor <;> simp [hup])
    · exact (h.returnRsCredits 1).report _ _ _

theorem Steady.rqFramingFailure (h : Steady s) : Steady (rqFramingFailure s) :=
  h.rqDown.frame (u := putRq .restart (Machine.rqDown s))

theorem Steady.rsFramingFailure (h : Steady s) : Steady (rsFramingFailure s) :=
  h.rsDown.frame (u := putRs .restart (Machine.rsDown s))

theorem rqLink_up_of_not_down (h : ¬ s.rqLink = .down) : s.rqLink = .up := by
  cases hl : s.rqLink with
  | up => rfl
  | down => exact absurd hl h

theorem rsLink_up_of_not_down (h : ¬ s.rsLink = .down) : s.rsLink = .up := by
  cases hl : s.rsLink with
  | up => rfl
  | down => exact absurd hl h

theorem upheld_rqArrival (h : Steady s) (framing : BitVec 8) (words : List Word) (check : BitVec 16) {t : State}
    (ht : execRqArrival framing words check s = .next t) : Upheld t := by
  obtain rfl := Outcome.next.inj ht
  split
  · exact h.upheld
  · next hd =>
    have hup := rqLink_up_of_not_down hd
    split
    · exact (h.admitRq hup _ _ _).upheld
    · exact (h.admitRq hup _ _ _).upheld
    · exact h.rqFramingFailure.upheld

theorem upheld_rsArrival (h : Steady s) (framing : BitVec 8) (words : List Word) (check : BitVec 16) {t : State}
    (ht : execRsArrival framing words check s = .next t) : Upheld t := by
  obtain rfl := Outcome.next.inj ht
  split
  · exact h.upheld
  · next hd =>
    split
    · exact (h.admitRs (rsLink_up_of_not_down hd) _ _).upheld
    · exact h.rsFramingFailure.upheld

theorem upheld_creditReturn (h : Steady s) (port : PortId) (byte : BitVec 8) {t : State}
    (ht : execCreditReturnIndication port byte s = .next t) : Upheld t := by
  obtain rfl := Outcome.next.inj ht
  cases port with
  | rq =>
    dsimp only
    split
    · exact h.upheld
    · next hd =>
      have hup := rqLink_up_of_not_down hd
      split
      · exact (h.frame (by constructor <;> simp [hup])).upheld
      · exact h.rqFramingFailure.upheld
  | rs =>
    dsimp only
    split
    · exact h.upheld
    · next hd =>
      have hup := rsLink_up_of_not_down hd
      split
      · exact Steady.issueAfter (h.frame (by constructor <;> simp [hup])) s
      · exact h.rsFramingFailure.upheld

/-! ### The links come UP (R135, R137) -/

theorem Steady.rqUp (h : Steady s) : Steady (rqUp s) := by
  have h1 : Steady { s with rqLink := .up, rqCredits := 0 } :=
    { h with
      head := h.head.frame rfl rfl id fun _ => le_rfl
      states := h.states.frame rfl rfl fun _ => rfl
      rq := nofun
      rs := fun hd => { h.rs hd with }
      alerts := h.alerts.frame rfl }
  exact (h1.returnRqCredits _ _).returnRqCredits _ _

theorem Steady.rsUp (h : Steady s) : Steady (rsUp s) := by
  have h1 : Steady { s with rsLink := .up, rsCredits := 0 } :=
    { h with
      head := h.head.frame rfl rfl id fun _ => le_rfl
      states := h.states.frame rfl rfl fun _ => rfl
      rq := fun hd => { h.rq hd with }
      rs := nofun
      alerts := h.alerts.frame rfl }
  exact h1.returnRsCredits _

/-! ### The Management Agent (R170 to R175) -/

/-- What a row's handling leaves: `Steady`, and the RQ port as it was. -/
def Carried (s u : State) : Prop := Steady u ∧ u.rqLink = s.rqLink

theorem Carried.refuse (h : Carried s u) (r : Request) (st : Status) : Carried s (refuse r st u).1 :=
  ⟨h.1.report _ _ _, by simpa [Machine.refuse] using h.2⟩

theorem Steady.takeRequest (h : Steady s) (row : MgmtRow) {handle : Request → State → State × Answer}
    (hh : ∀ r, Carried s (handle r s).1) : Upheld (takeRequest row handle s) := by
  unfold Machine.takeRequest
  split
  · exact h.upheld
  · next r rest hq =>
    split
    · have hout : Carried s (carryOut handle r s).1 := by
        unfold carryOut
        split
        · exact Carried.refuse ⟨h, rfl⟩ _ _
        · exact hh r
      obtain ⟨h1, hl⟩ := hout
      have hup := hl.trans (h.rqUp_of_not_idle fun hi => nomatch hq.symm.trans hi.management)
      have h2 : Steady (placeManagementAnswer r (carryOut handle r s).2 (carryOut handle r s).1) := by
        unfold placeManagementAnswer
        split
        · exact h1
        · exact h1.frame (by constructor <;> simp [hup])
      have h3 : Steady (finishRequest (placeManagementAnswer r (carryOut handle r s).2 (carryOut handle r s).1)) :=
        Steady.returnRqCredits (h2.frame (by constructor <;> simp +contextual)) .management 1
      exact h3.issueAfter s
    · exact h.upheld

theorem carried_writeWith (h : Steady s) {apply : Request → State → Option State}
    (ha : ∀ r u, apply r s = some u → Carried s u) (r : Request) : Carried s (writeWith apply r s).1 := by
  unfold writeWith
  split
  · exact Carried.refuse ⟨h, rfl⟩ _ _
  · split
    · next u hu => exact ha r u hu
    · exact Carried.refuse ⟨h, rfl⟩ _ _

theorem Carried.showCommand (h : Carried s u) (r : Request) (b : Bool) : Carried s (showCommand r b u) :=
  ⟨h.1.frame (by constructor <;> simp [Machine.showCommand]) rfl le_rfl, h.2⟩

theorem carried_commandWith (h : Steady s) {effect : BitVec 8 → State → Option State}
    (he : ∀ a u, effect a s = some u → Carried s u) (r : Request) : Carried s (commandWith effect r s).1 := by
  unfold commandWith
  split
  · exact Carried.refuse ⟨h, rfl⟩ _ _
  · split
    · next u hu => exact (he _ u hu).showCommand r false
    · exact (Carried.showCommand ⟨h, rfl⟩ r true).refuse _ _

/-- A command that no state refuses. -/
theorem carried_commandWith_some (h : Steady s) {f : State → State} (hf : Carried s (f s)) (r : Request) :
    Carried s (commandWith (fun _ s => some (f s)) r s).1 :=
  carried_commandWith (effect := fun _ s => some (f s)) h (fun _ _ hu => Option.some.inj hu ▸ hf) r

theorem carried_handleOther (h : Steady s) (r : Request) : Carried s (handleOther r s).1 := by
  unfold handleOther
  split
  · exact ⟨h, rfl⟩
  · exact carried_commandWith h (fun _ _ hu => nomatch (show (none : Option State) = some _ from hu)) r
  · exact Carried.refuse ⟨h, rfl⟩ _ _

/-! ### The commands and the writes -/

/-- A setting that the four claims do not read. -/
theorem Steady.carried (h : Steady s) (f : Unmoved s u := by constructor <;> simp) (ha : u.alert = s.alert := by rfl)
    (he : u.err.records.length ≤ s.err.records.length := by exact le_rfl) : Carried s u :=
  ⟨h.frame f ha he, f.rqLink⟩

/-- The operating state changes, neither to HALTED nor with tags ACTIVE that it does not allow. -/
theorem Steady.setOpState (h : Steady s) {o : OpState} (hs : StatesSound { s with opState := o }) (ho : o ≠ .halted) :
    Steady { s with opState := o } :=
  { h with
    head := h.head.frame rfl rfl (fun hh => absurd hh ho) fun _ => le_rfl
    states := hs
    rq := fun hd => { h.rq hd with }
    rs := fun hd => { h.rs hd with }
    alerts := h.alerts.frame rfl }

theorem carried_quiesce (h : Steady s) (hu : quiesceEffect s = some u) : Carried s u := by
  unfold quiesceEffect at hu
  split at hu
  · obtain rfl := Option.some.inj hu
    refine ⟨h.setOpState ?_ (by split <;> simp), rfl⟩
    by_cases ha : s.activeTags = 0
    · rw [if_pos ha]
      exact ⟨fun _ => ha, nofun, nofun⟩
    · rw [if_neg ha]
      exact ⟨fun ho => ho.elim nofun nofun, fun _ => Nat.pos_of_ne_zero ha, nofun⟩
  · obtain rfl := Option.some.inj hu
    exact ⟨h, rfl⟩
  · obtain rfl := Option.some.inj hu
    exact ⟨h, rfl⟩
  · exact nomatch hu

theorem carried_resumeRun (h : Steady s) : Carried s (resumeRun s) :=
  ⟨(h.setOpState (o := .run) ⟨fun ho => ho.elim nofun nofun, nofun, nofun⟩ nofun).linkDownClassified,
    by simp [resumeRun]⟩

theorem carried_resume (h : Steady s) (hu : resumeEffect s = some u) : Carried s u := by
  unfold resumeEffect at hu
  split at hu
  · obtain rfl := Option.some.inj hu
    exact ⟨h, rfl⟩
  · obtain rfl := Option.some.inj hu
    exact carried_resumeRun h
  · obtain rfl := Option.some.inj hu
    exact carried_resumeRun h
  · split at hu
    · exact nomatch hu
    · obtain rfl := Option.some.inj hu
      exact carried_resumeRun h

theorem carried_flush (h : Steady s) (a : BitVec 8) (hu : flushEffect a s = some u) : Carried s u := by
  unfold flushEffect at hu
  split at hu
  · obtain rfl := Option.some.inj hu
    exact ⟨h.flushSource _, by simp⟩
  · exact nomatch hu

theorem carried_softReset (h : Steady s) : Carried s (softReset s) := ⟨h.softReset, by simp⟩

theorem carried_alertAck (h : Steady s) (a : BitVec 8) (hu : alertAckEffect a s = some u) : Carried s u := by
  obtain ⟨c, -, rfl⟩ := Option.map_eq_some_iff.mp hu
  exact ⟨h.setAlert (classSound_ack ((alertsSound_iff s).mp h.alerts) c h.records _), rfl⟩

theorem carried_alertConfig (h : Steady s) (r : Request) (hu : writeAlertConfig r s = some u) : Carried s u := by
  obtain rfl := Option.some.inj hu
  refine ⟨h.setAlert fun d => ?_, rfl⟩
  cases d with
  | fatal => exact classSound_setEnable h.alerts.fatal _
  | nonfatal => exact classSound_setEnable h.alerts.nonfatal _
  | advisory => exact classSound_setEnable h.alerts.advisory _

theorem carried_popRecord (h : Steady s) (hu : popRecordEffect s = some u) : Carried s u := by
  unfold popRecordEffect at hu
  split at hu
  · exact nomatch hu
  · next r rest hr =>
    obtain rfl := Option.some.inj hu
    exact h.carried (he := by simp [hr])

theorem carried_clearStatus (h : Steady s) (a : BitVec 8) (hu : clearStatusEffect a s = some u) : Carried s u := by
  unfold clearStatusEffect at hu
  split at hu
  · obtain rfl := Option.some.inj hu
    exact h.carried (he := (congrArg List.length (records_clearAll s.err)).le)
  · split at hu
    · obtain rfl := Option.some.inj hu
      exact h.carried
    · exact nomatch hu

/-! What a write that reads its request's word does to the state. As above, such a rule is opened before it meets the
request, so that the kernel does not evaluate the word's offset. -/

theorem writeSourceConfig_some {r : Request} (hu : writeSourceConfig r s = some u) :
    ∃ n e, u = { s with sources := putAt s.sources n e } ∧ e.count = (getAt s.sources n).count := by
  generalize hf : writeSourceConfig = f at hu
  delta writeSourceConfig at hf
  subst hf
  beta_reduce at hu
  generalize r.word = w at hu
  split at hu
  · next n =>
    obtain ⟨e, he, rfl⟩ := Option.map_eq_some_iff.mp hu
    exact ⟨n, e, rfl, count_of_configure he⟩
  · exact nomatch hu

theorem writeStaging_some {r : Request} (hu : writeStaging r s = some u) : ∃ b, u = { s with banks := b } := by
  generalize hf : writeStaging = f at hu
  delta writeStaging at hf
  subst hf
  beta_reduce at hu
  generalize r.word = w at hu
  split at hu
  · dsimp only at hu
    split at hu
    · split at hu
      · exact ⟨_, (Option.some.inj hu).symm⟩
      · exact nomatch hu
    · exact nomatch hu
  · exact nomatch hu

theorem writeTimeoutClass_some {r : Request} (hu : writeTimeoutClass r s = some u) :
    ∃ l, u = { s with timeoutLimits := l } := by
  generalize hf : writeTimeoutClass = f at hu
  delta writeTimeoutClass at hf
  subst hf
  beta_reduce at hu
  generalize r.word = w at hu
  split at hu
  · split at hu
    · exact nomatch hu
    · exact ⟨_, (Option.some.inj hu).symm⟩
  · exact nomatch hu

theorem writeErrorSeverity_some {r : Request} (hu : writeErrorSeverity r s = some u) :
    ∃ e, u = { s with err := e } ∧ e.records = s.err.records := by
  generalize hf : writeErrorSeverity = f at hu
  delta writeErrorSeverity at hf
  subst hf
  beta_reduce at hu
  generalize r.word = w at hu
  split at hu
  · split at hu
    · exact ⟨_, (Option.some.inj hu).symm, records_severityFrom _ r.value s.err⟩
    · exact nomatch hu
  · exact nomatch hu

theorem carried_sourceConfig (h : Steady s) (r : Request) (hu : writeSourceConfig r s = some u) : Carried s u := by
  obtain ⟨n, e, rfl, he⟩ := writeSourceConfig_some hu
  refine h.carried ?_
  constructor
  case count =>
    intro m
    rw [getAt_putAt]
    split
    · next hm => exact hm ▸ he.le
    · exact le_rfl
  all_goals simp

theorem carried_staging (h : Steady s) (r : Request) (hu : writeStaging r s = some u) : Carried s u := by
  obtain ⟨b, rfl⟩ := writeStaging_some hu
  exact h.carried

theorem carried_timeoutClass (h : Steady s) (r : Request) (hu : writeTimeoutClass r s = some u) : Carried s u := by
  obtain ⟨l, rfl⟩ := writeTimeoutClass_some hu
  exact h.carried

theorem carried_errorSeverity (h : Steady s) (r : Request) (hu : writeErrorSeverity r s = some u) : Carried s u := by
  obtain ⟨e, rfl, he⟩ := writeErrorSeverity_some hu
  exact h.carried (he := by rw [he])

theorem carried_quarantineLimit (h : Steady s) (r : Request) (hu : writeQuarantineLimit r s = some u) :
    Carried s u := by
  unfold writeQuarantineLimit at hu
  split at hu
  · exact nomatch hu
  · obtain rfl := Option.some.inj hu
    exact h.carried

theorem carried_tickPeriod (h : Steady s) (r : Request) (hu : writeTickPeriod r s = some u) : Carried s u := by
  unfold writeTickPeriod at hu
  dsimp only at hu
  split at hu
  · exact nomatch hu
  · obtain rfl := Option.some.inj hu
    exact h.carried

theorem carried_tickRun (h : Steady s) (r : Request) (hu : writeTickRun r s = some u) : Carried s u := by
  obtain rfl := Option.some.inj hu
  exact h.carried

theorem carried_errorControl (h : Steady s) (r : Request) (hu : writeErrorControl r s = some u) : Carried s u := by
  obtain rfl := Option.some.inj hu
  exact h.carried

theorem carried_errorMask (h : Steady s) (r : Request) (hu : writeErrorMask r s = some u) : Carried s u := by
  obtain rfl := Option.some.inj hu
  exact h.carried (he := (congrArg List.length (records_maskFrom r.value s.err)).le)

theorem carried_farSource (h : Steady s) (r : Request) (hu : writeFarSource r s = some u) : Carried s u := by
  unfold writeFarSource at hu
  split at hu
  · obtain rfl := Option.some.inj hu
    exact h.carried
  · exact nomatch hu

theorem upheld_command (h : Steady s) {row : MgmtRow} {effect : BitVec 8 → State → Option State}
    (he : ∀ a u, effect a s = some u → Carried s u) : Upheld (takeRequest row (commandWith effect) s) :=
  h.takeRequest row (carried_commandWith h he)

theorem upheld_command_some (h : Steady s) {row : MgmtRow} {f : State → State} (hf : Carried s (f s)) :
    Upheld (takeRequest row (commandWith fun _ s => some (f s)) s) :=
  h.takeRequest row (carried_commandWith_some h hf)

theorem upheld_write (h : Steady s) {row : MgmtRow} {apply : Request → State → Option State}
    (ha : ∀ r u, apply r s = some u → Carried s u) : Upheld (takeRequest row (writeWith apply) s) :=
  h.takeRequest row (carried_writeWith h ha)

/-! ### The clock and the Matcher's step -/

theorem Steady.tickEvent (h : Steady s) : Steady (tickEvent s) :=
  Steady.distribute (h.frame (u := { s with tick := s.tick.underflow })).expireAndLapse s

theorem Steady.prescaledStep (h : Steady s) : Steady (prescaledStep s) := by
  unfold Machine.prescaledStep
  split
  · exact h.tickEvent
  · exact h.frame

theorem Steady.clockPeriod (h : Steady s) : Upheld (clockPeriod s) := by
  have htick : ∀ g, Steady { s with tick := g } := fun g => h.frame
  unfold Machine.clockPeriod
  split
  · exact h.upheld
  · split
    · exact (htick _).upheld
    · exact (htick _).prescaledStep.issueAfter s

theorem Steady.matcherStep (h : Steady s) : Steady (matcherStep s) := by
  unfold Machine.matcherStep
  split
  · exact h
  · split
    · exact h.matcherTake.distribute s
    · exact h.matcherTake

/-! ### Every command -/

theorem upheld_deviceReset (n : SourceId) (s : State) : Upheld (deviceReset n s) where
  head := headSound_of_new rfl nofun nofun
  states := ⟨fun ho => ho.elim nofun nofun, nofun, nofun⟩
  links := (linksSound_iff _).mpr ⟨fun _ => ⟨rfl, rfl, rfl, rfl, rfl, rfl, rfl, fun m => getAt_fillTable 32 _ m,
    fun t _ hr => nomatch (getAt_tags_deviceReset n s t).symm.trans hr⟩,
    fun _ => ⟨rfl, rfl, getAt_tags_deviceReset n s⟩⟩
  alerts := ⟨classSound_toIdle .atReset, classSound_toIdle .atReset, classSound_toIdle .atReset⟩

theorem upheld_issue (h : Steady s) {t : State} (ht : execIssue s = .next t) : Upheld t := by
  obtain rfl := Outcome.next.inj ht
  split
  · next hi =>
    split
    · exact h.upheld
    · exact h.issueWith hi
  · exact h.upheld

theorem upheld_issuePlainPosted (h : Steady s) {t : State} (ht : execIssuePlainPosted s = .next t) : Upheld t := by
  obtain rfl := Outcome.next.inj ht
  split
  · next hi =>
    split
    · exact h.issueWith hi
    · exact h.upheld
  · exact h.upheld

theorem upheld_of_next {t : State} (h : Upheld u) (ht : (Outcome.next u : Outcome State Fault Refusal) = .next t) :
    Upheld t :=
  Outcome.next.inj ht ▸ h

theorem upheld_ite {p : Prop} [Decidable p] {v : State} (hu : Upheld u) (hv : Upheld v) :
    Upheld (if p then u else v) := by
  split
  · exact hu
  · exact hv

/-- The rows of the Management Agent (R170). -/
theorem upheld_management (h : Steady s) (row : MgmtRow) {t : State} (ht : exec row.command s = .next t) :
    Upheld t := by
  cases row with
  | swapBanks =>
    have hc : Carried s (swapRoles s) := h.carried (by constructor <;> simp [swapRoles])
    exact upheld_of_next (upheld_command_some h hc) ht
  | copyActiveToStaging =>
    have hc : Carried s (copyBank s) := h.carried (by constructor <;> simp [copyBank])
    exact upheld_of_next (upheld_command_some h hc) ht
  | quiesce => exact upheld_of_next (upheld_command h fun _ _ => carried_quiesce h) ht
  | resume => exact upheld_of_next (upheld_command h fun _ _ => carried_resume h) ht
  | flushSource => exact upheld_of_next (upheld_command h fun a _ => carried_flush h a) ht
  | softReset => exact upheld_of_next (upheld_command_some h (carried_softReset h)) ht
  | alertAck => exact upheld_of_next (upheld_command h fun a _ => carried_alertAck h a) ht
  | popRecord => exact upheld_of_next (upheld_command h fun _ _ => carried_popRecord h) ht
  | clearRecords =>
    have hc : Carried s (clearRecordsEffect s) :=
      h.carried (by constructor <;> simp [clearRecordsEffect]) (he := Nat.zero_le _)
    exact upheld_of_next (upheld_command_some h hc) ht
  | clearStatus => exact upheld_of_next (upheld_command h fun a _ => carried_clearStatus h a) ht
  | sourceConfiguration => exact upheld_of_next (upheld_write h fun r _ => carried_sourceConfig h r) ht
  | stagingWindow => exact upheld_of_next (upheld_write h fun r _ => carried_staging h r) ht
  | timeoutClass => exact upheld_of_next (upheld_write h fun r _ => carried_timeoutClass h r) ht
  | quarantineLimit => exact upheld_of_next (upheld_write h fun r _ => carried_quarantineLimit h r) ht
  | tickPeriod => exact upheld_of_next (upheld_write h fun r _ => carried_tickPeriod h r) ht
  | tickRun => exact upheld_of_next (upheld_write h fun r _ => carried_tickRun h r) ht
  | errorMask => exact upheld_of_next (upheld_write h fun r _ => carried_errorMask h r) ht
  | errorSeverity => exact upheld_of_next (upheld_write h fun r _ => carried_errorSeverity h r) ht
  | errorControl => exact upheld_of_next (upheld_write h fun r _ => carried_errorControl h r) ht
  | alertConfiguration => exact upheld_of_next (upheld_write h fun r _ => carried_alertConfig h r) ht
  | farSource => exact upheld_of_next (upheld_write h fun r _ => carried_farSource h r) ht
  | other => exact upheld_of_next (h.takeRequest _ (carried_handleOther h)) ht

/-- Every command that is no row of the Management Agent, and every such row. -/
theorem upheld_exec (h : Steady s) (hquota : ∀ n, (getAt s.sources n).quota.toNat ≤ 16) (i : Instr) {t : State}
    (ht : exec i s = .next t) : Upheld t := by
  cases i with
  | deviceReset n => exact upheld_of_next (upheld_deviceReset n s) ht
  | rqLinkUp => exact upheld_of_next (upheld_ite h.upheld h.rqUp.upheld) ht
  | rqLinkDown => exact upheld_of_next (upheld_ite h.rqDown.upheld h.upheld) ht
  | rsLinkUp => exact upheld_of_next (upheld_ite h.upheld h.rsUp.upheld) ht
  | rsLinkDown => exact upheld_of_next (upheld_ite h.rsDown.upheld h.upheld) ht
  | rqArrival framing words check => exact upheld_rqArrival h framing words check ht
  | rsArrival framing words check => exact upheld_rsArrival h framing words check ht
  | creditReturnIndication port byte => exact upheld_creditReturn h port byte ht
  | tickEvent => exact upheld_of_next (upheld_ite (h.tickEvent.issueAfter s) h.upheld) ht
  | expiry tag => exact upheld_of_next (((h.expireTag tag).distribute s).issueAfter s) ht
  | lapse tag => exact upheld_of_next ((h.lapseTag tag).issueAfter s) ht
  | classification => exact upheld_of_next (h.takeUpHead hquota).upheld ht
  | issue => exact upheld_issue h ht
  | issuePlainPosted => exact upheld_issuePlainPosted h ht
  | answerPlacement => exact upheld_of_next (h.placeDirect .dispatch).upheld ht
  | backlogEntry => exact upheld_of_next ((h.placeDirect .backlog).issueAfter s) ht
  | malformedAnswerEntry => exact upheld_of_next (h.placeDirect .malformedList).upheld ht
  | matcherTake => exact upheld_of_next (h.matcherStep.issueAfter s) ht
  | drainStep source => exact upheld_of_next ((h.placeDirect (.drain source)).issueAfter s) ht
  | transmitStep => exact upheld_of_next (upheld_ite (h.transmit.issueAfter s) h.upheld) ht
  | halt => exact upheld_of_next h.takeHalt.upheld ht
  | prescaledStep => exact upheld_of_next (upheld_ite (h.prescaledStep.issueAfter s) h.upheld) ht
  | swapBanks => exact upheld_management h .swapBanks ht
  | copyActiveToStaging => exact upheld_management h .copyActiveToStaging ht
  | quiesce => exact upheld_management h .quiesce ht
  | resume => exact upheld_management h .resume ht
  | flushSource => exact upheld_management h .flushSource ht
  | softReset => exact upheld_management h .softReset ht
  | alertAck => exact upheld_management h .alertAck ht
  | popRecord => exact upheld_management h .popRecord ht
  | clearRecords => exact upheld_management h .clearRecords ht
  | clearStatus => exact upheld_management h .clearStatus ht
  | sourceConfigurationWrite => exact upheld_management h .sourceConfiguration ht
  | stagingWindowWrite => exact upheld_management h .stagingWindow ht
  | timeoutClassWrite => exact upheld_management h .timeoutClass ht
  | quarantineLimitWrite => exact upheld_management h .quarantineLimit ht
  | tickPeriodWrite => exact upheld_management h .tickPeriod ht
  | tickRunWrite => exact upheld_management h .tickRun ht
  | errorMaskWrite => exact upheld_management h .errorMask ht
  | errorSeverityWrite => exact upheld_management h .errorSeverity ht
  | errorControlWrite => exact upheld_management h .errorControl ht
  | alertConfigurationWrite => exact upheld_management h .alertConfiguration ht
  | farSourceIdWrite => exact upheld_management h .farSource ht
  | managementWrite => exact upheld_management h .other ht

end

/-- A step taken where the invariant holds: a command of the queue, or a core clock period. -/
theorem Inv.step_upheld {s t : State} (h : Inv s) (ht : step s = .next t) : Upheld t := by
  unfold step at ht
  split at ht
  · exact upheld_of_next (h.steady rfl).clockPeriod ht
  · refine upheld_exec ?_ ?_ _ ht
    · exact h.steady rfl
    · exact h.loaded.quota

/-- Settles O57: `Steady` holds from the start of every step to the issue at its end, and an issue keeps the four
claims. -/
theorem stepKeepsHeadLinksAndAlertsSound : Obligations.StepKeepsHeadLinksAndAlertsSound := fun _ _ h ht =>
  have hu := h.step_upheld ht
  ⟨hu.head, hu.states, hu.links, hu.alerts⟩

end Sys2Proof.Machine
end

section
/-! PROOF. The words of a sent request, the returned credit, and how Dispatch tests and moves its head, in the words of
the statements. -/

namespace Sys2Proof.Machine

/-! ### The words of a sent request (R40, R187, R189) -/

theorem toNat_append_eq_add {m n : Nat} (x : BitVec m) (y : BitVec n) :
    (x ++ y).toNat = x.toNat * 2 ^ n + y.toNat := by
  rw [BitVec.toNat_append, ← Nat.shiftLeft_add_eq_or_of_lt y.isLt, Nat.shiftLeft_eq]

theorem getLsbD_eq_decide (w : Word) (i : Nat) : w.getLsbD i = decide (w.toNat / 2 ^ i % 2 = 1) := by
  rw [BitVec.getLsbD, Nat.testBit_eq_decide_div_mod_eq]

/-- The first header word of a request that the bridge sends, as a number (R189, R193). -/
theorem toNat_requestHeader (k : BitVec 4) (source : SourceId) (tag : BitVec 8) (poison : Bool) {n : Nat}
    (hn : n ≤ 64) :
    (k ++ sourceBits source ++ tag ++ 0#1 ++ bit poison ++ 0#1 ++ 0#2 ++ 0#3 ++ BitVec.ofNat 7 n : BitVec 32).toNat =
      k.toNat * 2 ^ 28 + source.val * 2 ^ 23 + tag.toNat * 2 ^ 15 + poison.toNat * 2 ^ 13 + n := by
  have hs : source.val < 32 := source.isLt
  simp only [toNat_append_eq_add, sourceBits, bit, BitVec.toNat_ofNat, BitVec.toNat_ofBool]
  omega

/-- The two address words, as numbers (R189). -/
theorem toNat_addressWords (a : Address) :
    (0#24 ++ a.extractLsb' 32 8 : BitVec 32).toNat = a.toNat / 2 ^ 32 ∧
      (a.extractLsb' 0 32).toNat = a.toNat % 2 ^ 32 := by
  have ha : a.toNat < 2 ^ 40 := a.isLt
  simp only [toNat_append_eq_add, BitVec.extractLsb'_toNat, BitVec.toNat_ofNat, Nat.shiftRight_eq_div_pow]
  omega

theorem sentRequest_packRequest (kind : ReqKind) (source : SourceId) (tag : BitVec 8) (poison : Bool) {n : Nat}
    (a : Address) (payload : List Word) (hn : n ≤ 64) :
    SentRequest (packRequest kind source tag poison n a payload)
      { kind := kind, source := source, tag := tag, ordered := false, poison := poison, length := n,
        address := a, override := none, payload := payload } := by
  have hw := toNat_requestHeader kind.code source tag poison hn
  have hs : source.val < 32 := source.isLt
  have ht : tag.toNat < 256 := tag.isLt
  have hp : poison.toNat < 2 := poison.toNat_lt
  have ha : a.toNat < 2 ^ 40 := a.isLt
  have hk : kind.code.toNat < 16 := kind.code.isLt
  obtain ⟨h1, h2⟩ := toNat_addressWords a
  refine ⟨⟨_, _, _, rfl, ?_, ?_, ?_, ?_, ?_, ?_, nofun, ?_, ?_⟩, _, _, _, rfl, ?_, ?_, fun _ => ?_⟩ <;>
    simp only [getLsbD_eq_decide, hw, h1, h2]
  · cases kind <;> simp only [ReqKind.code, BitVec.toNat_ofNat] at hk ⊢ <;> omega
  · omega
  · omega
  · exact decide_eq_false (by omega)
  · cases poison <;> simp <;> omega
  · exact decide_eq_false (by omega)
  · omega
  · omega
  · omega
  · omega
  · omega

/-! ### The lowest of a table (R2, R29, R85) -/

/-- The first index of a table that passes a test is the lowest that does. -/
theorem find?_finRange_eq_some_iff {n : Nat} {p : Fin n → Bool} {i : Fin n} :
    (List.finRange n).find? p = some i ↔ p i = true ∧ ∀ j, j < i → p j = false := by
  rw [List.find?_eq_some_iff_getElem]
  refine and_congr_right fun _ => ⟨?_, fun h => ⟨i.val, by simp, by simp, fun j hj => ?_⟩⟩
  · rintro ⟨k, hk, hki, hlow⟩ j hj
    have hik : i.val = k := by simp [← hki]
    simpa using hlow j.val (hik ▸ hj)
  · simpa using h ⟨j, hj.trans i.isLt⟩ hj

theorem baseAddress_toNat (b : BitVec 28) : (baseAddress b).toNat = b.toNat * 4096 :=
  (toNat_append_eq_add b 0#12).trans (by simp)

section

variable {s : State}

theorem contains_iff (w : Window) (a : Nat) : w.contains a = true ↔ Covers w a := by
  have hpos : 0 < 2 ^ w.sizeExp.toNat := Nat.two_pow_pos _
  simp only [Window.contains, Window.size, Covers, baseAddress_toNat, Bool.and_eq_true, decide_eq_true_eq]
  omega

theorem lookup_eq_some_iff {a : Address} {i : Fin 16} : s.lookup a = some i ↔ Chosen s a.toNat i := by
  have h : ∀ j, ((getAt s.activeWindows j).valid && (getAt s.activeWindows j).contains a.toNat) = true ↔
      (s.window j).valid = true ∧ Covers (s.window j) a.toNat := fun j => by
    rw [Bool.and_eq_true, contains_iff]; rfl
  simp only [State.lookup, find?_finRange_eq_some_iff, Chosen, ← h, Bool.not_eq_true]

theorem lookup_eq_none_iff {a : Address} :
    s.lookup a = none ↔ ∀ i, ¬((s.window i).valid = true ∧ Covers (s.window i) a.toNat) := by
  simp only [State.lookup, List.find?_eq_none, List.mem_finRange, true_implies, Bool.and_eq_true, contains_iff]
  rfl

theorem freeTag_eq_some_iff {t : PoolTag} :
    s.freeTag = some t ↔ s.backlog = [] ∧ getAt s.tags t = .free ∧ ∀ h, h < t → getAt s.tags h ≠ .free := by
  have hfree : ∀ x : TagState, x.isFree = true ↔ x = .free := fun x => by cases x <;> simp [TagState.isFree]
  unfold State.freeTag
  split
  · next hb => simp [List.isEmpty_iff.mp hb, find?_finRange_eq_some_iff, ← hfree]
  · next hb => simp [mt List.isEmpty_iff.mpr hb]

theorem freeSlot_eq_some_iff {l : SlotId} :
    s.freeSlot = some l ↔ getAt s.slots l = none ∧ ∀ k, k < l → getAt s.slots k ≠ none := by
  simp [State.freeSlot, State.element, find?_finRange_eq_some_iff, Option.isSome_iff_ne_none]

/-! ### The head leaves or is to be answered (R23, R35, R42) -/

theorem indicationByte_eq (p : PoolCode) : indicationByte p = returnByte p := by
  cases p <;> rfl

theorem returnRqCredits_eq (p : PoolCode) (n : Nat) (s : State) :
    returnRqCredits p n s = { s with rqWire := s.rqSent (returnByte p) n } := by
  unfold returnRqCredits State.rqSent
  rw [indicationByte_eq]
  split <;> rfl

theorem removeHead_eq {w : Waiting} {rest : List Waiting} (hq : s.forwardQueue = w :: rest) :
    removeHead s = headGone rest s := by
  rw [removeHead, returnRqCredits_eq, hq]; rfl

theorem refuseHead_eq {w : Waiting} {rest : List Waiting} (hq : s.forwardQueue = w :: rest) (k : ErrorKind)
    (st : Status) : refuseHead w.req k st s = refusedHead w rest k st s := by
  unfold refuseHead refusedHead
  dsimp only
  rw [removeHead_eq (w := w) (rest := rest) (by simpa using hq)]
  rfl

theorem linkDownHead_eq {w : Waiting} {rest : List Waiting} (hq : s.forwardQueue = w :: rest) {cls : IssueClass}
    (hc : cls = .nonPosted ↔ w.req.kind ≠ .write) : linkDownHead w.req cls s = strandedHead w rest s := by
  have hgone : removeHead (report .discardedWrite (some .rs) w.req.ident s) =
      headGone rest (report .discardedWrite (some .rs) w.req.ident s) := removeHead_eq (w := w) (by simpa using hq)
  unfold strandedHead
  by_cases hk : w.req.kind = .write
  · rw [if_pos hk]
    cases cls with
    | nonPosted => exact absurd hk (hc.mp rfl)
    | absorbed => exact hgone
    | plainPosted => exact hgone
  · rw [if_neg hk, hc.mpr hk]
    rfl

/-! ### CLASSIFICATION (R25, R26) -/

theorem takeUpHead_new {w : Waiting} {rest : List Waiting} (hq : s.forwardQueue = w :: rest) (hp : s.headPhase = .new)
    (hm : w.mark = false) (ho : s.opState = .run) : takeUpHead s = classifyHead w.req s := by
  simp [takeUpHead, hq, hp, hm, ho]

theorem takeUpHead_classified {w : Waiting} {rest : List Waiting} {c : Classified} (hq : s.forwardQueue = w :: rest)
    (hp : s.headPhase = .classified c) (hm : w.mark = false) :
    takeUpHead s = if s.opState = .run ∧ s.rsLink = .down then linkDownHead w.req c.cls s else s := by
  simp [takeUpHead, linkDownClassified, hq, hp, hm]

theorem takeUpHead_marked {w : Waiting} {rest : List Waiting} (hq : s.forwardQueue = w :: rest)
    (hp : ∀ st, s.headPhase ≠ .answering st) (hm : w.mark = true) :
    takeUpHead s = { s with headPhase := .answering .halted } := by
  have hset : takeUpHead s = setPhase (.answering .halted) s := by
    cases hs : s.headPhase with
    | answering st => exact absurd hs (hp st)
    | classified c => simp [takeUpHead, hq, hs, hm]
    | new => simp [takeUpHead, hq, hs, hm]
  exact hset

theorem takeUpHead_answering {w : Waiting} {rest : List Waiting} {st : Status} (hq : s.forwardQueue = w :: rest)
    (hp : s.headPhase = .answering st) : takeUpHead s = s := by
  simp [takeUpHead, hq, hp]

theorem takeUpHead_not_run {w : Waiting} {rest : List Waiting} (hq : s.forwardQueue = w :: rest)
    (hm : w.mark = false) (ho : s.opState ≠ .run) : takeUpHead s = s := by
  cases hp : s.headPhase with
  | answering st => exact takeUpHead_answering hq hp
  | classified c => rw [takeUpHead_classified hq hp hm, if_neg fun h => ho h.1]
  | new => simp [takeUpHead, hq, hp, hm, ho]

/-! ### The stages of classification (R26 to R34) -/

theorem classify_unknownSource {q : Request} (h : (getAt s.sources q.source).valid = false ∨
    (getAt s.sources q.source).quota = 0#5) : s.classify q = .refused .unknownSource .unsupported := by
  rcases h with h | h <;> simp [State.classify, h]

/-- The first stage is passed: the source is valid and has a quota (R28). -/
structure SourceKnown (s : State) (q : Request) : Prop where
  valid : (getAt s.sources q.source).valid = true
  quota : (getAt s.sources q.source).quota ≠ 0#5

theorem classify_noWindow {q : Request} (hs : SourceKnown s q)
    (h : ∀ i, ¬((s.window i).valid = true ∧ Covers (s.window i) q.address.toNat)) :
    s.classify q = .refused .noWindow .unsupported := by
  simp [State.classify, hs.valid, hs.quota, lookup_eq_none_iff.mpr h]

/-- The last four stages, once a window is chosen. -/
theorem classify_chosen {q : Request} {i : Fin 16} (hs : SourceKnown s q) (hi : Chosen s q.address.toNat i) :
    s.classify q =
      if (s.window i).contains q.lastByte = false ∨ Config.apertureBase ≤ q.lastByte then .refused .accessDenied .denied
      else if (s.window i).groups.getLsbD (getAt s.sources q.source).group.val = false then
        .refused .accessDenied .denied
      else if (s.window i).access.admits q.kind = false then .refused .accessDenied .denied
      else if q.kind ≠ .write ∧ (getAt s.sources q.source).quota.toNat ≤ (getAt s.sources q.source).count then
        .refused .quotaRetry .retry
      else .passed (s.passResult q i) := by
  have hw : getAt s.activeWindows i = s.window i := rfl
  simp only [State.classify, hs.valid, hs.quota, lookup_eq_some_iff.mpr hi, hw, Bool.not_true,
    Bool.false_or, decide_false, Bool.false_eq_true, if_false, Bool.or_eq_true, Bool.and_eq_true, Bool.not_eq_true',
    decide_eq_true_eq]

/-- The last byte lies outside the window or in the aperture (R30). -/
theorem outOfSpan_iff (w : Window) (q : Request) :
    w.contains q.lastByte = false ∨ Config.apertureBase ≤ q.lastByte ↔
      ¬Covers w (q.address.toNat + 4 * q.length - 1) ∨ 0xFFFFFF0000 ≤ q.address.toNat + 4 * q.length - 1 := by
  rw [← contains_iff, Bool.not_eq_true]; rfl

theorem admits_iff (a : Access) (k : ReqKind) :
    a.admits k = true ↔ (a = .readOnly → k = .read) ∧ (a = .writeOnly → k ≠ .read) := by
  cases a <;> cases k <;> simp [Access.admits]

theorem orders_iff (m : OrderMode) (f : Bool) : m.orders f = true ↔ m = .all ∨ (m = .flagged ∧ f = true) := by
  cases m <;> simp [OrderMode.orders]

theorem issueClass_eq (w : Window) (k : ReqKind) :
    w.issueClass k = if k ≠ .write then .nonPosted else if w.absorb then .absorbed else .plainPosted := by
  cases k <;> simp [Window.issueClass]

theorem ordered_eq (w : Window) (k : ReqKind) (m : OrderMode) (f : Bool) :
    (decide (w.issueClass k = .nonPosted) && m.orders f) =
      decide (k ≠ .write ∧ (m = .all ∨ (m = .flagged ∧ f = true))) := by
  rw [Bool.eq_iff_iff]
  simp only [Bool.and_eq_true, decide_eq_true_eq, issueClass_nonPosted, orders_iff]

section

variable {w : Waiting} {rest : List Waiting} (hq : s.forwardQueue = w :: rest) (hp : s.headPhase = .new)
  (hm : w.mark = false) (ho : s.opState = .run)

include hq hp hm ho

theorem exec_classification_refused {k : ErrorKind} {st : Status} (hc : s.classify w.req = .refused k st) :
    exec .classification s = .next (refusedHead w rest k st s) := by
  show execClassification s = _
  rw [execClassification, takeUpHead_new hq hp hm ho, classifyHead, hc, ← refuseHead_eq hq]

theorem exec_classification_passed {c : Classified} (hc : s.classify w.req = .passed c)
    (hcls : c.cls = .nonPosted ↔ w.req.kind ≠ .write) :
    (s.rsLink = .up → exec .classification s = .next { s with headPhase := .classified c }) ∧
      (s.rsLink = .down → exec .classification s = .next (strandedHead w rest s)) := by
  have hexec : exec .classification s =
      .next (if s.rsLink = .down then linkDownHead w.req c.cls s else setPhase (.classified c) s) := by
    show execClassification s = _
    rw [execClassification, takeUpHead_new hq hp hm ho, classifyHead, hc]
  rw [hexec, linkDownHead_eq hq hcls]
  exact ⟨fun hl => by rw [if_neg (by simp [hl])]; rfl, fun hl => by rw [if_pos hl]⟩

end

/-! ### ISSUE (R37 to R41) -/

theorem entryKind_eq (k : ReqKind) : entryKind k = if k = .read then .read else .cwrite := by
  cases k <;> rfl

theorem issueRecord_eq (s : State) (q : Request) (c : Classified) (link : Option SlotId) :
    s.issueRecord q c link = issuedRecord s q c link := by
  rw [State.issueRecord, entryKind_eq]; rfl

theorem sendRequest_eq (q : Request) (c : Classified) (tag : BitVec 8) (s : State) :
    sendRequest q c tag s = requestSent (s.rewritten q c tag) s := rfl

theorem sentRequest_rewritten (s : State) {q : Request} (c : Classified) (tag : BitVec 8) (hn : q.length ≤ 64) :
    SentRequest (s.rewritten q c tag) (sentRequest s q c tag) :=
  sentRequest_packRequest _ _ _ _ _ _ hn

theorem countIssue_eq (q : Request) (c : Classified) (s : State) :
    countIssue q c s = { s with
      sources :=
        if c.cls = .nonPosted then
          putAt s.sources q.source { getAt s.sources q.source with count := (getAt s.sources q.source).count + 1 }
        else s.sources } := by
  unfold countIssue
  split <;> rfl

theorem exec_issue_of_issuable {q : Request} {c : Classified} {g : Grant} (hi : s.issuable = some (q, c, g))
    (hc : c.cls ≠ .plainPosted) : exec .issue s = .next (issueWith q c s g) := by
  show execIssue s = _
  simp [execIssue, hi, hc]

theorem exec_issuePlainPosted_of_issuable {q : Request} {c : Classified} {g : Grant}
    (hi : s.issuable = some (q, c, g)) (hc : c.cls = .plainPosted) :
    exec .issuePlainPosted s = .next (issueWith q c s g) := by
  show execIssuePlainPosted s = _
  simp [execIssuePlainPosted, hi, hc]

/-- Neither row issues a head that cannot be issued. -/
theorem exec_issue_of_not_issuable (hi : s.issuable = none) :
    exec .issue s = .next s ∧ exec .issuePlainPosted s = .next s := by
  constructor
  · show execIssue s = _
    simp [execIssue, hi]
  · show execIssuePlainPosted s = _
    simp [execIssuePlainPosted, hi]

theorem classified_of_issuable {q : Request} {c d : Classified} {g : Grant} (hp : s.headPhase = .classified c)
    (hi : s.issuable = some (q, d, g)) : d = c := by
  obtain ⟨-, -, -, hd, -⟩ := issuable_eq_some_iff.mp hi
  exact HeadPhase.classified.inj (hd.symm.trans hp)

/-- Each row leaves the other's class alone. -/
theorem exec_issue_of_plainPosted {c : Classified} (hp : s.headPhase = .classified c) (hc : c.cls = .plainPosted) :
    exec .issue s = .next s := by
  cases hi : s.issuable with
  | none => exact (exec_issue_of_not_issuable hi).1
  | some x =>
    obtain ⟨q, d, g⟩ := x
    obtain rfl := classified_of_issuable hp hi
    show execIssue s = _
    simp [execIssue, hi, hc]

theorem exec_issuePlainPosted_of_tagged {c : Classified} (hp : s.headPhase = .classified c)
    (hc : c.cls ≠ .plainPosted) : exec .issuePlainPosted s = .next s := by
  cases hi : s.issuable with
  | none => exact (exec_issue_of_not_issuable hi).2
  | some x =>
    obtain ⟨q, d, g⟩ := x
    obtain rfl := classified_of_issuable hp hi
    show execIssuePlainPosted s = _
    simp [execIssuePlainPosted, hi, hc]

/-- A CLASSIFIED head without a grant is not issued. -/
theorem exec_issue_of_no_grant {c : Classified} (hp : s.headPhase = .classified c) (hg : s.grant c = none) :
    exec .issue s = .next s := by
  refine (exec_issue_of_not_issuable (Option.eq_none_iff_forall_ne_some.mpr fun ⟨q, d, g⟩ hi => ?_)).1
  obtain ⟨-, -, -, -, -, -, -, -, hsome⟩ := issuable_eq_some_iff.mp hi
  obtain rfl := classified_of_issuable hp hi
  exact nomatch hg.symm.trans hsome

/-! ### The issue at a step's end (R37) -/

theorem issueNow_of_not_issuable (hi : s.issuable = none) : issueNow s = s := by
  simp [issueNow, hi]

theorem not_issuable_of_phase (hp : ∀ c, s.headPhase ≠ .classified c) : s.issuable = none := by
  refine Option.eq_none_iff_forall_ne_some.mpr fun ⟨q, c, g⟩ hi => ?_
  obtain ⟨-, -, -, hc, -⟩ := issuable_eq_some_iff.mp hi
  exact hp c hc

/-- An issue leaves the head NEW, so a row that changes nothing found no head to issue. -/
theorem issueWith_ne {q : Request} {c d : Classified} {g : Grant} (hp : s.headPhase = .classified d) :
    issueWith q c s g ≠ s := fun h => by
  have hnew := (issueWith_head q c s g).2
  rw [h, hp] at hnew
  exact nomatch hnew

theorem issueAfter_self (s : State) : issueAfter s s = s :=
  issueAfter_eq rfl rfl rfl rfl rfl rfl rfl rfl

end

end Sys2Proof.Machine
end

section
/-! PROOF. The statements of the family: CLASSIFICATION, ISSUE and ISSUE_PLAIN_POSTED, the issue at a step's end, and
the answers that wait for a place in the Traffic Queue. -/

namespace Sys2Proof.Machine

/-! ### CLASSIFICATION (R25 to R36) -/

/-- Settles O18, stage by stage along `classify`. -/
theorem classificationRefusals : Obligations.ClassificationRefusals := by
  intro w rest s hq hp hm ho e a last
  have refused {k st} (hc : s.classify w.req = .refused k st) := exec_classification_refused hq hp hm ho hc
  refine ⟨fun h => refused (classify_unknownSource h),
    fun hv hn hnone => refused (classify_noWindow ⟨hv, hn⟩ hnone), fun i hv hn hi => ?_⟩
  have hstages := classify_chosen ⟨hv, hn⟩ hi
  refine ⟨fun h => refused (hstages.trans (if_pos ((outOfSpan_iff _ _).mpr h))), fun hc hl => ?_⟩
  have hspan := mt (outOfSpan_iff _ _).mp (not_or.mpr ⟨not_not.mpr hc, Nat.not_le.mpr hl⟩)
  rw [if_neg hspan] at hstages
  refine ⟨fun hg => refused (hstages.trans (if_pos hg)), fun hg ha => refused ?_, fun hg hr hw hk hcount => refused ?_⟩
  · have hadmits : (s.window i).access.admits w.req.kind = false := by
      rw [← Bool.not_eq_true, admits_iff]
      rintro ⟨hread, hwrite⟩
      exact ha.elim (fun h => h.2 (hread h.1)) fun h => hwrite h.1 h.2
    rw [hstages, if_neg (ne_false_of_eq_true hg), if_pos hadmits]
  · have hadmits := (admits_iff _ _).mpr ⟨hr, hw⟩
    rw [hstages, if_neg (ne_false_of_eq_true hg), if_neg (ne_false_of_eq_true hadmits), if_pos ⟨hk, hcount⟩]

/-- Settles O19: `classify` passes the head with the result of R27. -/
theorem classificationPasses : Obligations.ClassificationPasses := by
  intro w rest i s hq hp hm ho e last hv hn hi hc hl hg hr hw hcount cls ordered c
  have hresult : s.passResult w.req i = c := by
    have hcls : (s.window i).issueClass w.req.kind = cls := issueClass_eq _ _
    have hord : (decide ((s.window i).issueClass w.req.kind = .nonPosted) &&
        (getAt s.sources w.req.source).order.orders w.req.ordered) = ordered := ordered_eq _ _ _ _
    have hwin : getAt s.activeWindows i = s.window i := rfl
    simp only [State.passResult, hwin, hord]
    simp only [hcls, Bool.and_eq_true, decide_eq_true_eq, c]
  have hpassed : s.classify w.req = .passed c := by
    have hspan := mt (outOfSpan_iff _ _).mp (not_or.mpr ⟨not_not.mpr hc, Nat.not_le.mpr hl⟩)
    have hadmits := (admits_iff _ _).mpr ⟨hr, hw⟩
    have hquota : ¬(w.req.kind ≠ .write ∧ e.quota.toNat ≤ e.count) := fun h =>
      hcount.elim h.1 fun hlt => Nat.not_le.mpr hlt h.2
    rw [classify_chosen ⟨hv, hn⟩ hi, if_neg hspan, if_neg (ne_false_of_eq_true hg),
      if_neg (ne_false_of_eq_true hadmits), if_neg hquota, hresult]
  exact exec_classification_passed hq hp hm ho hpassed (hresult ▸ (planFits_passResult s w.req i).cls)

/-- Settles O20, by the phase and the mark of the head. -/
theorem headsNotClassified : Obligations.HeadsNotClassified := by
  intro s
  have hexec : ∀ {u}, takeUpHead s = u → exec .classification s = .next u := fun h => congrArg Host.Outcome.next h
  refine ⟨fun hq => hexec (by simp [takeUpHead, hq]), fun w rest hq => ⟨fun st hp => hexec (takeUpHead_answering hq hp),
    fun hp hm => hexec (takeUpHead_marked hq hp hm), fun hm ho => hexec (takeUpHead_not_run hq hm ho),
    fun c hp hm ho hl => hexec ?_, fun c hs hp ho hl => hexec ?_⟩⟩
  · rw [takeUpHead_classified hq hp hm, if_neg (by simp [hl])]
  · rw [takeUpHead_classified hq hp (hs.unmarked w rest c hq hp).1, if_pos ⟨ho, hl⟩,
      linkDownHead_eq hq (hs.cls w rest c hq hp)]

/-! ### ISSUE and ISSUE_PLAIN_POSTED (R37 to R41) -/

/-- Settles O21. -/
theorem issueUnordered : Obligations.IssueUnordered := by
  intro w rest c g s hq hp hm ho hl hcr hb hn hcls hg hlow hord
  have hgrant : s.grant c = some (.tag g) := by
    simp [State.grant, Nat.ne_of_gt hcr, hcls, freeTag_eq_some_iff.mpr ⟨hb, hg, hlow⟩, hord]
  have hi := issuable_eq_some_iff.mpr ⟨w, rest, hq, hp, hm, ho, hl, rfl, hgrant⟩
  refine ⟨_, sentRequest_rewritten s c (tagBits g) hn, ?_⟩
  rw [exec_issue_of_issuable hi hcls, issueWith, removeHead_eq (w := w) (rest := rest) (by simpa using hq),
    sendRequest_eq, countIssue_eq, issueRecord_eq]
  rfl

/-- Settles O22. -/
theorem issueOrdered : Obligations.IssueOrdered := by
  intro w rest c g l s hq hp hm ho hl hcr hb hn hcls hg hlow hord hslot hslots hroom
  have hgrant : s.grant c = some (.tagAndSlot g l) := by
    simp [State.grant, Nat.ne_of_gt hcr, hcls, freeTag_eq_some_iff.mpr ⟨hb, hg, hlow⟩, hord,
      freeSlot_eq_some_iff.mpr ⟨hslot, hslots⟩, Config.holdWords, hroom]
  have hi := issuable_eq_some_iff.mpr ⟨w, rest, hq, hp, hm, ho, hl, rfl, hgrant⟩
  refine ⟨_, sentRequest_rewritten s c (tagBits g) hn, ?_⟩
  rw [exec_issue_of_issuable hi (by simp [hcls]), issueWith,
    removeHead_eq (w := w) (rest := rest) (by simpa using hq), sendRequest_eq, countIssue_eq, issueRecord_eq,
    if_pos hcls, issueElement, entryKind_eq]
  rfl

/-- Settles O23. -/
theorem issuePlainPosted : Obligations.IssuePlainPosted := by
  intro w rest c s hq hp hm ho hl hcr hn hcls
  have hgrant : s.grant c = some .plain := by simp [State.grant, Nat.ne_of_gt hcr, hcls]
  have hi := issuable_eq_some_iff.mpr ⟨w, rest, hq, hp, hm, ho, hl, rfl, hgrant⟩
  refine ⟨_, sentRequest_rewritten s c 0#8 hn, ?_⟩
  rw [exec_issuePlainPosted_of_issuable hi hcls, issueWith,
    removeHead_eq (w := w) (rest := rest) (by simpa using hq), sendRequest_eq]

/-- Settles O24: without any one of them there is no grant, or no head that can be issued. -/
theorem issueWaitsForEveryResource : Obligations.IssueWaitsForEveryResource := by
  intro s
  have blocked : (∀ q c g, s.issuable ≠ some (q, c, g)) →
      exec .issue s = .next s ∧ exec .issuePlainPosted s = .next s := fun h =>
    exec_issue_of_not_issuable (Option.eq_none_iff_forall_ne_some.mpr fun ⟨q, c, g⟩ => h q c g)
  refine ⟨fun hq => blocked fun q c g hi => ?_, fun w rest hq => ⟨fun h => blocked fun q c g hi => ?_, fun c hp =>
    ⟨exec_issue_of_plainPosted hp, exec_issuePlainPosted_of_tagged hp, fun hcls h => ?_, fun hcls hord h => ?_⟩⟩⟩
  · obtain ⟨_, _, hq', -⟩ := issuable_eq_some_iff.mp hi
    exact nomatch hq.symm.trans hq'
  · obtain ⟨v, more, hq', hp, hm, ho, hl, -, hgrant⟩ := issuable_eq_some_iff.mp hi
    obtain ⟨rfl, -⟩ := List.cons.inj (hq.symm.trans hq')
    rcases h with h | h | h | h | h
    · exact h c hp
    · exact nomatch hm.symm.trans h
    · exact h ho
    · exact nomatch hl.symm.trans h
    · simp [State.grant, h] at hgrant
  · refine exec_issue_of_no_grant hp (Option.eq_none_iff_forall_ne_some.mpr fun g hg => ?_)
    rcases grant_cases hg with ⟨hpl, -⟩ | ⟨t, -, ht, -⟩
    · exact hcls hpl
    · obtain ⟨hb, hfree, -⟩ := freeTag_eq_some_iff.mp ht
      exact h.elim (fun hn => hn hb) fun hn => hn t hfree
  · refine exec_issue_of_no_grant hp (Option.eq_none_iff_forall_ne_some.mpr fun g hg => ?_)
    rcases grant_cases hg with ⟨hpl, -⟩ | ⟨t, -, -, ⟨hu, -⟩ | ⟨l, -, hs, hroom, -⟩⟩
    · exact hcls hpl
    · exact nomatch hord.symm.trans hu
    · exact h.elim (fun hn => hn l (freeSlot_eq_some_iff.mp hs).1) fun hn => Nat.not_le.mpr hn hroom

/-! ### The issue at a step's end (R37) -/

/-- Settles O25: a row that changes nothing found no head that it could issue. -/
theorem releasedResourceIssuesHead : Obligations.ReleasedResourceIssuesHead := by
  intro s u
  refine ⟨fun hp => if_neg ?_, fun hp => ?_, fun h => if_neg fun hc => ?_, fun c hq hp hpu hs hs' => ?_⟩
  · cases hph : s.headPhase with
    | classified c => exact absurd hph (hp c)
    | new => simp [State.headClassified, hph]
    | answering st => simp [State.headClassified, hph]
  · unfold issueAfter
    rw [issueNow_of_not_issuable (not_issuable_of_phase hp), ite_self]
  · have hnone := Option.isNone_iff_eq_none.mp (Bool.and_eq_true_iff.mp hc).2
    obtain ⟨h1, h2⟩ := exec_issue_of_not_issuable hnone
    exact h.elim (fun hn => hn h1) fun hn => hn h2
  · have hnone : s.issuable = none := Option.eq_none_iff_forall_ne_some.mpr fun ⟨q, d, g⟩ hi => by
      by_cases hd : d.cls = .plainPosted
      · rw [exec_issuePlainPosted_of_issuable hi hd] at hs'
        exact issueWith_ne hp (Host.Outcome.next.inj hs')
      · rw [exec_issue_of_issuable hi hd] at hs
        exact issueWith_ne hp (Host.Outcome.next.inj hs)
    have hafter : issueAfter s u = issueNow u := if_pos (by simp [State.headClassified, hp, hq, hnone])
    rw [hafter]
    cases hu : u.issuable with
    | none =>
      obtain ⟨h1, h2⟩ := exec_issue_of_not_issuable hu
      rw [issueNow_of_not_issuable hu]
      split
      · exact h2
      · exact h1
    | some x =>
      obtain ⟨q, d, g⟩ := x
      obtain rfl := classified_of_issuable hpu hu
      have hnow : issueNow u = issueWith q d u g := by simp [issueNow, hu]
      rw [hnow]
      split
      · next hc => exact exec_issuePlainPosted_of_issuable hu hc
      · next hc => exact exec_issue_of_issuable hu hc

/-! ### The answers that wait (R11, R35, R127) -/

theorem placeDirect_of_ready {s : State} {p : Producer} (hroom : s.trafficQueue.length < 32) (hr : s.ready p = true) :
    placeDirect p s = serve p s :=
  if_pos (Bool.and_eq_true_iff.mpr ⟨(trafficHasRoom_iff s).mpr hroom, hr⟩)

theorem placeDirect_of_blocked {s : State} {p : Producer} (h : 32 ≤ s.trafficQueue.length ∨ s.ready p = false) :
    placeDirect p s = s := by
  refine if_neg fun hc => ?_
  obtain ⟨hroom, hr⟩ := Bool.and_eq_true_iff.mp hc
  exact h.elim (Nat.not_le.mpr ((trafficHasRoom_iff s).mp hroom)) fun hn => nomatch hr.symm.trans hn

/-- Settles O26, one producer after the other. -/
theorem waitingAnswersEnterTheTrafficQueue : Obligations.WaitingAnswersEnterTheTrafficQueue := by
  intro s
  refine ⟨fun w rest st hq hp hroom => congrArg Host.Outcome.next ?_, fun h => congrArg Host.Outcome.next ?_,
    fun a rest hb hroom => congrArg Host.Outcome.next (congrArg (issueAfter s) ?_),
    fun h => congrArg Host.Outcome.next ?_, fun a rest hm hroom => congrArg Host.Outcome.next ?_,
    fun h => congrArg Host.Outcome.next ?_⟩
  · rw [placeDirect_of_ready hroom (by simp [State.ready, State.answers, hq, hp])]
    simp only [serve, placeAnswer, hq, hp]
    exact removeHead_eq hq
  · refine placeDirect_of_blocked (h.imp_right fun hn => ?_)
    simp only [State.ready, State.answers]
    split
    · next hq hp => exact (hn.elim (fun h => nomatch hq.symm.trans h) fun h => h _ hp).elim
    · rfl
  · rw [placeDirect_of_ready hroom (by simp [State.ready, hb])]
    simp only [serve, placeBacklog, hb]
    rfl
  · rw [placeDirect_of_blocked (h.imp_right fun hn => by simp [State.ready, hn])]
    exact issueAfter_self s
  · rw [placeDirect_of_ready hroom (by simp [State.ready, hm])]
    simp only [serve, placeMalformed, hm]
    exact returnRqCredits_eq _ _ _
  · exact placeDirect_of_blocked (h.imp_right fun hn => by simp [State.ready, hn])

end Sys2Proof.Machine
end

section
/-! PROOF. The loaded tables' writes: what each word's rule accepts, in the words of the statements, and the statements
about SWAP_BANKS, COPY_ACTIVE_TO_STAGING and the writes of the tables, the limits and the Tick Generator. -/

namespace Sys2Proof.Machine

/-! ### The fields of a written word (R193, R196, R197) -/

theorem toNat_extract (v : Word) (start len : Nat) :
    (v.extractLsb' start len).toNat = v.toNat / 2 ^ start % 2 ^ len := by
  rw [BitVec.extractLsb'_toNat, Nat.shiftRight_eq_div_pow]

theorem extract_eq_iff (v : Word) (start : Nat) {len n : Nat} (hn : n < 2 ^ len) :
    v.extractLsb' start len = BitVec.ofNat len n ↔ v.toNat / 2 ^ start % 2 ^ len = n := by
  rw [← BitVec.toNat_inj, toNat_extract, BitVec.toNat_ofNat, Nat.mod_eq_of_lt hn]

theorem extract_toFin (v : Word) (start : Nat) :
    (v.extractLsb' start 2).toFin = Fin.ofNat 4 (v.toNat / 2 ^ start) :=
  Fin.ext (toNat_extract v start 2)

theorem orderMode_extract (v : Word) : OrderMode.ofCode (v.extractLsb' 16 2) =
    if v.toNat / 2 ^ 16 % 4 = 3 then none
    else some (if v.toNat / 2 ^ 16 % 4 = 0 then .none else if v.toNat / 2 ^ 16 % 4 = 1 then .all else .flagged) := by
  simp only [OrderMode.ofCode, extract_eq_iff v 16 (len := 2) (n := 0) (by decide),
    extract_eq_iff v 16 (len := 2) (n := 1) (by decide), extract_eq_iff v 16 (len := 2) (n := 2) (by decide)]
  have hlt : v.toNat / 2 ^ 16 % 4 < 4 := Nat.mod_lt _ (by decide)
  generalize v.toNat / 2 ^ 16 % 4 = n at hlt
  revert n
  decide

theorem prescale_extract (v : Word) : Prescale.ofCode (v.extractLsb' 0 2) = prescaleOf (v.toNat % 4) := by
  simp only [Prescale.ofCode, prescaleOf, extract_eq_iff v 0 (len := 2) (n := 0) (by decide),
    extract_eq_iff v 0 (len := 2) (n := 1) (by decide), extract_eq_iff v 0 (len := 2) (n := 2) (by decide),
    Nat.pow_zero, Nat.div_one]
  rfl

theorem limitOf_eq_zero_iff (v : Word) : limitOf v = 0#12 ↔ v.toNat % 4096 = 0 := by
  rw [limitOf, extract_eq_iff v 0 (n := 0) (by decide), Nat.pow_zero, Nat.div_one]
  rfl

theorem access_extract {v : Word} {a : Access} : Access.ofCode (v.extractLsb' 4 2) = some a ↔
    (v.toNat / 16 % 4 = 1 ∧ a = .readOnly) ∨ (v.toNat / 16 % 4 = 2 ∧ a = .writeOnly) ∨
      (v.toNat / 16 % 4 = 3 ∧ a = .readWrite) := by
  simp only [Access.ofCode, extract_eq_iff v 4 (len := 2) (n := 1) (by decide),
    extract_eq_iff v 4 (len := 2) (n := 2) (by decide), extract_eq_iff v 4 (len := 2) (n := 3) (by decide)]
  have hlt : v.toNat / 16 % 4 < 4 := Nat.mod_lt _ (by decide)
  generalize v.toNat / 16 % 4 = n at hlt
  revert n
  cases a <;> decide

/-! ### Source configuration (R46, R48) -/

theorem configure_accepts (e : SourceEntry) {v : Word} (hquota : v.toNat / 16 % 32 ≤ 16)
    (hmode : v.toNat / 2 ^ 16 % 4 ≠ 3) :
    e.configure v = some
      { valid := v.getLsbD 0
        group := Fin.ofNat 4 (v.toNat / 2)
        quota := v.extractLsb' 4 5
        permission := v.getLsbD 12
        order := if v.toNat / 2 ^ 16 % 4 = 0 then .none else if v.toNat / 2 ^ 16 % 4 = 1 then .all else .flagged
        count := e.count } := by
  have hq : (v.extractLsb' 4 5).toNat ≤ 16 := (toNat_extract v 4 5).trans_le hquota
  simp only [SourceEntry.configure, orderMode_extract, if_neg hmode, if_pos hq, extract_toFin, pow_one]

theorem configure_refuses (e : SourceEntry) {v : Word} (h : 16 < v.toNat / 16 % 32 ∨ v.toNat / 2 ^ 16 % 4 = 3) :
    e.configure v = none := by
  unfold SourceEntry.configure
  rw [orderMode_extract]
  by_cases hmode : v.toNat / 2 ^ 16 % 4 = 3
  · rw [if_pos hmode]
  · have hq : ¬ (v.extractLsb' 4 5).toNat ≤ 16 := by
      rw [toNat_extract]; exact Nat.not_le.mpr (h.resolve_right hmode)
    simp only [if_neg hmode, if_neg hq]

/-! ### Windows (R53, R55) -/

theorem withWord_eq_some_iff {w w' : Window} {k : Fin 4} {v : Word} :
    w.withWord k v = some w' ↔ StagedWindow w k v w' := by
  unfold Window.withWord StagedWindow
  split
  · simp only [Option.map_eq_some_iff, access_extract, extract_toFin]
    simp [eq_comm]
  · have hsize := toNat_extract v 0 6
    simp only [Nat.pow_zero, Nat.div_one] at hsize
    simp [hsize, and_assoc, eq_comm]
  · simp [eq_comm]
  · simp [eq_comm]

theorem aligned_iff (w : Window) : w.aligned = true ↔ AlignedWindow w := by
  simp only [Window.aligned, AlignedWindow, Window.size, baseAddress_toNat, Bool.and_eq_true, decide_eq_true_eq]

/-! ### The rows of the written words (R194) -/

section

variable {s : State} {r : Request} {rest : List Request} {v : Word}

theorem WriteTaken.addresses {off : Nat} (h : WriteTaken s r rest off v) {w : MgmtWord}
    (hw : mgmtWordAt off = some w) : r.word = some w ∧ r.kind ≠ .read :=
  ⟨h.toTaken.word.trans hw, h.write⟩

theorem wordAt_sourceConfig (n : SourceId) : mgmtWordAt (0x100 + 8 * n.val) = some (.sourceConfig n) := by
  revert n; decide +kernel

theorem wordAt_staging (i : Fin 16) (k : Fin 4) :
    mgmtWordAt (0x400 + 16 * i.val + 4 * k.val) = some (.staging i k) := by
  revert i k; decide +kernel

theorem wordAt_timeoutClass (c : Fin 4) : mgmtWordAt (0x60 + 4 * c.val) = some (.timeoutClass c) := by
  revert c; decide

/-! A rule that reads which word its request addresses is opened as a function, before it meets the request, so that
the kernel does not evaluate the word's offset. -/

theorem writeSourceConfig_of_word {n : SourceId} (hw : r.word = some (.sourceConfig n)) (s : State) :
    writeSourceConfig r s =
      ((getAt s.sources n).configure r.value).map fun e => { s with sources := putAt s.sources n e } := by
  generalize hf : writeSourceConfig = f
  delta writeSourceConfig at hf
  subst hf
  beta_reduce
  generalize r.word = w at hw
  subst hw
  rfl

theorem writeStaging_of_word {i : Fin 16} {k : Fin 4} (hw : r.word = some (.staging i k)) (s : State) :
    writeStaging r s =
      match (getAt (getAt s.banks s.stagingBank) i).withWord k r.value with
      | some w =>
        if w.aligned then
          some { s with banks := putAt s.banks s.stagingBank (putAt (getAt s.banks s.stagingBank) i w) }
        else none
      | none => none := by
  generalize hf : writeStaging = f
  delta writeStaging at hf
  subst hf
  beta_reduce
  generalize r.word = w at hw
  subst hw
  rfl

theorem writeTimeoutClass_of_word {c : Fin 4} (hw : r.word = some (.timeoutClass c)) (s : State) :
    writeTimeoutClass r s =
      if limitOf r.value = 0#12 then none
      else some { s with timeoutLimits := putAt s.timeoutLimits c (limitOf r.value) } := by
  generalize hf : writeTimeoutClass = f
  delta writeTimeoutClass at hf
  subst hf
  beta_reduce
  generalize r.word = w at hw
  subst hw
  rfl

/-! ### The writes, whole -/

/-- The Management Queue and what issue reads are the same in both states. -/
structure SameIssue (s u : State) : Prop where
  mgmtQueue : u.mgmtQueue = s.mgmtQueue
  forwardQueue : u.forwardQueue = s.forwardQueue
  headPhase : u.headPhase = s.headPhase
  opState : u.opState = s.opState
  rsLink : u.rsLink = s.rsLink
  rsCredits : u.rsCredits = s.rsCredits
  backlog : u.backlog = s.backlog
  tags : u.tags = s.tags
  slots : u.slots = s.slots

/-- The request answered in such a state issues no head (R37). -/
theorem SameIssue.issueAfter_answered {u : State} (h : SameIssue s u) (r : Request) (rest : List Request) (b : Body) :
    issueAfter s (answered r rest b u) = answered r rest b u :=
  issueAfter_eq h.forwardQueue h.headPhase h.opState h.rsLink h.rsCredits h.backlog h.tags h.slots

/-- A write that its rule accepts, where issue reads nothing of what it changes (R174). -/
theorem taken_write_accepted {off : Nat} (h : WriteTaken s r rest off v) {row : MgmtRow} (hr : r.row = row)
    {apply : Request → State → Option State} {u : State} (ha : apply r s = some u)
    (hq : SameIssue s u := by constructor <;> rfl) :
    takeRequest row (writeWith apply) s = answered r rest .done u :=
  (takeRequest_write h row hr apply u ha hq.mgmtQueue).trans (hq.issueAfter_answered r rest .done)

/-- A write that its rule refuses. -/
theorem taken_write_refused {off : Nat} (h : WriteTaken s r rest off v) {row : MgmtRow} (hr : r.row = row)
    {apply : Request → State → Option State} (ha : apply r s = none) :
    takeRequest row (writeWith apply) s = refusedWith r rest .denied s :=
  have hq : SameIssue s (report .mgmtRefused none (headerIdent r) s) := by constructor <;> simp
  (takeRequest_write_refused h row hr apply ha).trans (hq.issueAfter_answered r rest _)

/-- A command that is carried out, where issue reads nothing of what it changes (R175). -/
theorem taken_command (h : WriteTaken s r rest 4 v) {row : MgmtRow} (hr : r.row = row) {f : State → State}
    (hq : SameIssue s (shown v false (f s)) := by constructor <;> rfl) :
    takeRequest row (commandWith fun _ s => some (f s)) s = answered r rest .done (shown v false (f s)) :=
  (takeRequest_command h row hr (fun _ s => some (f s)) (f s) rfl hq.mgmtQueue).trans
    (hq.issueAfter_answered r rest .done)

end

/-! ### The statements -/

/-- Settles O38, by the taking step on a command that is carried out. -/
theorem swapAndCopyBanks : Obligations.SwapAndCopyBanks := fun r rest v s h => by
  refine ⟨fun hc => congrArg Host.Outcome.next ?_, fun hc => congrArg Host.Outcome.next ?_⟩
  · exact taken_command (f := swapRoles) h (row_command h hc)
  · exact taken_command (f := copyBank) h (row_command h hc)

/-- Settles O45, by what the rule of a source's configuration word accepts. -/
theorem sourceConfigurationWrites : Obligations.SourceConfigurationWrites := fun r rest v n s h => by
  obtain ⟨hw, hk⟩ := h.addresses (wordAt_sourceConfig n)
  have hrow : r.row = .sourceConfiguration := by simp [Request.row, hw, hk]
  refine ⟨fun hq hm => congrArg Host.Outcome.next ?_, fun hbad => congrArg Host.Outcome.next ?_⟩
  · refine taken_write_accepted h hrow ?_
    rw [writeSourceConfig_of_word hw, h.value, configure_accepts _ hq hm]
    rfl
  · refine taken_write_refused h hrow ?_
    rw [writeSourceConfig_of_word hw, h.value, configure_refuses _ hbad]
    rfl

/-- Settles O46: the rule's window after the write is the one that the statement names. -/
theorem stagingWindowWrites : Obligations.StagingWindowWrites := fun r rest v i k s h => by
  obtain ⟨hw, hk⟩ := h.addresses (wordAt_staging i k)
  have hrow : r.row = .stagingWindow := by simp [Request.row, hw, hk]
  refine ⟨fun w hst hal => congrArg Host.Outcome.next ?_, fun hbad => congrArg Host.Outcome.next ?_⟩
  · refine taken_write_accepted h hrow ?_
    rw [writeStaging_of_word hw, h.value, State.stagingBank, withWord_eq_some_iff.mpr hst]
    exact if_pos ((aligned_iff w).mpr hal)
  · refine taken_write_refused h hrow ?_
    rw [writeStaging_of_word hw, h.value, State.stagingBank]
    split
    · next w hst => exact if_neg (mt (aligned_iff w).mp (hbad w (withWord_eq_some_iff.mp hst)))
    · rfl

/-- Settles O47, word by word. -/
theorem limitAndTickWrites : Obligations.LimitAndTickWrites := fun r rest v s => by
  refine ⟨fun c h => ?_, fun h => ?_, fun h => ?_, fun h => ?_⟩
  · obtain ⟨hw, hk⟩ := h.addresses (wordAt_timeoutClass c)
    have hrow : r.row = .timeoutClass := by simp [Request.row, hw, hk]
    refine ⟨fun hne => congrArg Host.Outcome.next ?_, fun hz => congrArg Host.Outcome.next ?_⟩
    · refine taken_write_accepted h hrow ?_
      rw [writeTimeoutClass_of_word hw, h.value]
      exact if_neg (mt (limitOf_eq_zero_iff v).mp hne)
    · refine taken_write_refused h hrow ?_
      rw [writeTimeoutClass_of_word hw, h.value]
      exact if_pos ((limitOf_eq_zero_iff v).mpr hz)
  · obtain ⟨hw, hk⟩ := h.addresses (w := .quarantineLimit) (by decide)
    have hrow : r.row = .quarantineLimit := by simp [Request.row, hw, hk]
    refine ⟨fun hne => congrArg Host.Outcome.next ?_, fun hz => congrArg Host.Outcome.next ?_⟩
    · refine taken_write_accepted h hrow ?_
      rw [writeQuarantineLimit, h.value]
      exact if_neg (mt (limitOf_eq_zero_iff v).mp hne)
    · refine taken_write_refused h hrow ?_
      rw [writeQuarantineLimit, h.value]
      exact if_pos ((limitOf_eq_zero_iff v).mpr hz)
  · obtain ⟨hw, hk⟩ := h.addresses (w := .tickPeriod) (by decide)
    have hrow : r.row = .tickPeriod := by simp [Request.row, hw, hk]
    have hreload : v.extractLsb' 16 16 = 0#16 ↔ v.toNat / 2 ^ 16 = 0 := by
      rw [extract_eq_iff v 16 (n := 0) (by decide)]
      have := v.isLt
      omega
    refine ⟨fun hne => congrArg Host.Outcome.next ?_, fun hz => congrArg Host.Outcome.next ?_⟩
    · refine taken_write_accepted h hrow ?_
      simp [writeTickPeriod, h.value, mt hreload.mp hne, prescale_extract]
    · refine taken_write_refused h hrow ?_
      simp [writeTickPeriod, h.value, hreload.mpr hz]
  · obtain ⟨hw, hk⟩ := h.addresses (w := .tickRun) (by decide)
    have hrow : r.row = .tickRun := by simp [Request.row, hw, hk]
    refine congrArg Host.Outcome.next (taken_write_accepted h hrow ?_)
    simp [writeTickRun, h.value]

end Sys2Proof.Machine
end

section
/-! PROOF. `Tame`: what an operation keeps that writes no setting, takes no new work and sends no request; the settings,
the set error statuses and HALTED stay, the queues hold nothing new, and an entry only moves on. -/

namespace Sys2Proof.Machine

/-! ### How a tag moves (R1, R4, R7, R10) -/

/-- Where an operation other than issue can leave a pool tag, at tick count `now` under quarantine limit `limit`. -/
inductive TagMoves (now : Tick) (limit : BitVec 12) : TagState → TagState → Prop
  | stays (x : TagState) : TagMoves now limit x x
  | freed (x : TagState) : TagMoves now limit x .free
  | received (r : ActiveRec) (n : Nat) (d : Bool) (h : r.received ≤ r.length → n ≤ r.length) :
      TagMoves now limit (.active r) (.active { r with received := n, delivered := d })
  | abandoned (r : ActiveRec) (q : QuarRec) (hlimit : q.limit = limit) (hstart : q.startTick = now) :
      TagMoves now limit (.active r) (.quarantined q)

@[simp] theorem TagMoves.refl (now : Tick) (limit : BitVec 12) (x : TagState) : TagMoves now limit x x := .stays x

theorem TagMoves.trans {now : Tick} {limit : BitVec 12} {x y z : TagState} (h : TagMoves now limit x y)
    (k : TagMoves now limit y z) : TagMoves now limit x z := by
  cases h with
  | stays => exact k
  | freed =>
    cases k with
    | stays => exact .freed x
    | freed => exact .freed x
  | received r n d hle =>
    cases k with
    | stays => exact .received r n d hle
    | freed => exact .freed _
    | received _ m e hle' => exact .received r m e fun hr => hle' (hle hr)
    | abandoned _ q hl hs => exact .abandoned r q hl hs
  | abandoned r q hl hs =>
    cases k with
    | stays => exact .abandoned r q hl hs
    | freed => exact .freed _

/-- What an entry at an earlier step of a move was. -/
theorem TagMoves.of_active {now : Tick} {limit : BitVec 12} {x : TagState} {r : ActiveRec}
    (h : TagMoves now limit x (.active r)) :
    ∃ p n d, x = .active p ∧ r = { p with received := n, delivered := d } ∧ (p.received ≤ p.length → n ≤ p.length) := by
  cases h with
  | stays => exact ⟨r, r.received, r.delivered, rfl, rfl, id⟩
  | received p n d hle => exact ⟨p, n, d, rfl, rfl, hle⟩

theorem TagMoves.of_quarantined {now : Tick} {limit : BitVec 12} {x : TagState} {q : QuarRec}
    (h : TagMoves now limit x (.quarantined q)) : x = .quarantined q ∨ (q.limit = limit ∧ q.startTick = now) := by
  cases h with
  | stays => exact .inl rfl
  | abandoned p _ hl hs => exact .inr ⟨hl, hs⟩

/-! ### The relation -/

theorem SameSettings.trans {s u v : State} (h : SameSettings s u) (k : SameSettings u v) : SameSettings s v where
  farSource := k.farSource.trans h.farSource
  command := ⟨k.command.1.trans h.command.1, k.command.2.1.trans h.command.2.1, k.command.2.2.trans h.command.2.2⟩
  configuration n := (k.configuration n).trans (h.configuration n)
  banks := ⟨k.banks.1.trans h.banks.1, k.banks.2.1.trans h.banks.2.1, k.banks.2.2.trans h.banks.2.2⟩
  limits := ⟨k.limits.1.trans h.limits.1, k.limits.2.trans h.limits.2⟩
  strapPins := k.strapPins.trans h.strapPins
  masks i := (k.masks i).trans (h.masks i)
  severities i := (k.severities i).trans (h.severities i)
  haltOnFatal := k.haltOnFatal.trans h.haltOnFatal
  run := k.run.trans h.run
  alertDest := ⟨k.alertDest.1.trans h.alertDest.1, k.alertDest.2.trans h.alertDest.2⟩
  enables := ⟨k.enables.1.trans h.enables.1, k.enables.2.1.trans h.enables.2.1, k.enables.2.2.trans h.enables.2.2⟩

/-- The queues of `u` hold nothing that those of `s` do not hold, and the entries have only moved on. -/
structure Orderly (s u : State) : Prop where
  tick : u.tick = s.tick
  forward : u.forwardQueue.map Waiting.req ⊆ s.forwardQueue.map Waiting.req
  management : u.mgmtQueue ⊆ s.mgmtQueue
  ingress : u.ingress ⊆ s.ingress
  tags : ∀ t, TagMoves s.tick.count s.quarantineLimit (getAt s.tags t) (getAt u.tags t)

/-- An operation that also writes no setting, clears no error status, leaves HALTED alone and sends no request. -/
structure Tame (s u : State) : Prop extends SameSettings s u, Orderly s u where
  status : ∀ k, (s.err.item k).status = true → (u.err.item k).status = true
  halted : s.opState = .halted → u.opState = .halted
  packets : packetsOn u.rsWire = packetsOn s.rsWire

theorem Tame.trans {s u v : State} (h : Tame s u) (k : Tame u v) : Tame s v where
  toSameSettings := h.toSameSettings.trans k.toSameSettings
  tick := k.tick.trans h.tick
  forward _ hw := h.forward (k.forward hw)
  management _ hr := h.management (k.management hr)
  ingress _ hp := h.ingress (k.ingress hp)
  tags t := (h.tags t).trans (by simpa only [h.tick, h.limits.2] using k.tags t)
  status e he := k.status e (h.status e he)
  halted ho := k.halted (h.halted ho)
  packets := k.packets.trans h.packets

/-- An operation that leaves most alone. Where the laws of its updates show that, `simp` fills in the frame. -/
theorem Tame.frame {s u : State} (hs : SameSettings s u := by constructor <;> simp)
    (ho : Orderly s u := by constructor <;> simp)
    (hst : ∀ k, (s.err.item k).status = true → (u.err.item k).status = true := by simp)
    (hh : s.opState = .halted → u.opState = .halted := by simp)
    (hp : packetsOn u.rsWire = packetsOn s.rsWire := by simp) : Tame s u :=
  ⟨hs, ho, hst, hh, hp⟩

theorem Tame.refl (s : State) : Tame s s := .frame

/-- A fold of tame operations. -/
theorem Tame.foldl {α : Type} {g : State → α → State} (hg : ∀ s x, Tame s (g s x)) (s : State) (l : List α) :
    Tame s (l.foldl g s) :=
  List.foldlRecOn l g (.refl s) fun u hu x _ => hu.trans (hg u x)

section

variable (s : State)

/-! ### Credits, counts, elements and tags -/

theorem packetsOn_append (w v : List WireItem) : packetsOn (w ++ v) = packetsOn w + packetsOn v :=
  List.countP_append

theorem packetsOn_indications (n : Nat) (b : BitVec 8) : packetsOn (List.replicate n (.indication b)) = 0 := by
  simp [packetsOn, List.countP_replicate, WireItem.isPacket]

theorem tame_returnRqCredits (p : PoolCode) (n : Nat) : Tame s (returnRqCredits p n s) := .frame

theorem tame_returnRsCredits (n : Nat) : Tame s (returnRsCredits n s) := by
  refine .frame (hp := ?_)
  unfold returnRsCredits
  split
  · exact (packetsOn_append _ _).trans (by rw [packetsOn_indications, Nat.add_zero])
  · rfl

theorem tame_mapCount (n : SourceId) (f : Nat → Nat) : Tame s (mapCount n f s) := by
  refine .frame ?_
  constructor
  case configuration =>
    intro m
    simp only [mapCount, getAt_putAt]
    split
    · next h => rw [h]
    · rfl
  all_goals simp

theorem tame_lowerCount (n : SourceId) : Tame s (lowerCount n s) := tame_mapCount s n _

theorem tame_clearCounts : Tame s (clearCounts s) := Tame.foldl (fun s n => tame_mapCount s n _) s _

theorem tame_pushTraffic (r : Response) : Tame s (pushTraffic r s) := .frame

theorem tame_mapElement (l : SlotId) (f : Element → Element) : Tame s (mapElement l f s) := .frame

theorem tame_removeElement (n : SourceId) (l : SlotId) : Tame s (removeElement n l s) := .frame

theorem tame_clearLists : Tame s (clearLists s) := .frame

theorem tame_drained : Tame s (drained s) := by
  refine .frame (hh := fun ho => ?_)
  unfold drained
  rw [if_neg (by simp [ho])]
  exact ho

variable {s}

theorem tame_setTag {t : PoolTag} {x : TagState}
    (h : TagMoves s.tick.count s.quarantineLimit (getAt s.tags t) x) : Tame s (setTag t x s) := by
  refine .frame (ho := ?_)
  constructor
  case tags =>
    intro g
    rw [getAt_tags_setTag]
    split
    · next e => exact e ▸ h
    · exact .stays _
  all_goals simp

theorem tame_leaveActive {t : PoolTag} {x : TagState}
    (h : TagMoves s.tick.count s.quarantineLimit (getAt s.tags t) x) : Tame s (leaveActive t x s) :=
  (tame_setTag h).trans (tame_drained _)

theorem tame_freeTag (t : PoolTag) : Tame s (setTag t .free s) := tame_setTag (.freed _)

theorem tame_end (t : PoolTag) : Tame s (leaveActive t .free s) := tame_leaveActive (.freed _)

/-! ### Reports (R140 to R142) -/

/-- What a write of the alert configuration word sets is the same. -/
structure SameAlertSettings (a b : AlertUnit) : Prop where
  dest : b.dest = a.dest ∧ b.destValid = a.destValid
  enable : ∀ c, (b.cls c).enable = (a.cls c).enable

theorem sameAlertSettings_setCls (a : AlertUnit) {c : Severity} {x : AlertClass} (hx : x.enable = (a.cls c).enable) :
    SameAlertSettings a (a.setCls c x) where
  dest := by cases c <;> exact ⟨rfl, rfl⟩
  enable d := by
    rw [cls_setCls]
    split
    · next h => exact h ▸ hx
    · rfl

theorem sameAlertSettings_raise (a : AlertUnit) (c : Severity) (k : ErrorKind) (n : Nat) (ovf : Bool) :
    SameAlertSettings a (a.raise c k n ovf) := by
  unfold AlertUnit.raise
  dsimp only
  split
  · split
    · exact sameAlertSettings_setCls a rfl
    · exact ⟨⟨rfl, rfl⟩, fun _ => rfl⟩
  · exact sameAlertSettings_setCls a rfl
  · exact sameAlertSettings_setCls a rfl

theorem append_settings (e : ErrorUnit) (r : Record) :
    (e.append r).items = e.items ∧ (e.append r).haltOnFatal = e.haltOnFatal := by
  unfold ErrorUnit.append
  split <;> exact ⟨rfl, rfl⟩

/-- A report sets one status and records the rest without touching a setting. -/
theorem report_settings (k : ErrorKind) (port : Option PortId) (id : Ident) (s : State) :
    (report k port id s).err.items = putAt s.err.items k.index { s.err.item k with status := true } ∧
      (report k port id s).err.haltOnFatal = s.err.haltOnFatal ∧
      SameAlertSettings s.alert (report k port id s).alert := by
  unfold report
  split
  · exact ⟨rfl, rfl, ⟨rfl, rfl⟩, fun _ => rfl⟩
  · obtain ⟨hi, hh⟩ := append_settings (s.err.setStatus k)
      { kind := k, severity := ((s.err.setStatus k).item k).severity, port := port, stamp := s.tick.count, ident := id }
    exact ⟨hi, hh, sameAlertSettings_raise _ _ _ _ _⟩

theorem tame_report (k : ErrorKind) (port : Option PortId) (id : Ident) (s : State) : Tame s (report k port id s) := by
  obtain ⟨hitems, hhalt, ⟨hdest, hvalid⟩, henable⟩ := report_settings k port id s
  have hitem : ∀ i, getAt (report k port id s).err.items i =
      if k.index = i then { s.err.item k with status := true } else getAt s.err.items i := fun i => by
    rw [hitems, getAt_putAt]
  have hsame : ∀ {α : Type} (f : ErrorItem → α), (∀ x : ErrorItem, f { x with status := true } = f x) → ∀ i,
      f (getAt (report k port id s).err.items i) = f (getAt s.err.items i) := fun f hf i => by
    rw [hitem]
    split
    · next h => exact h ▸ hf _
    · rfl
  refine .frame ?_ (hst := fun e he => ?_)
  · constructor
    case masks => exact hsame ErrorItem.mask fun _ => rfl
    case severities => exact hsame ErrorItem.severity fun _ => rfl
    case haltOnFatal => exact hhalt
    case alertDest => exact ⟨hdest, hvalid⟩
    case enables => exact ⟨henable .fatal, henable .nonfatal, henable .advisory⟩
    all_goals simp
  · rw [ErrorUnit.item, hitem]
    split
    · rfl
    · exact he

end

end Sys2Proof.Machine
end

section
/-! PROOF. Termination, the Response Matcher, the producers of the ring, Dispatch, transmission and the teardowns are
tame. -/

namespace Sys2Proof.Machine

section

variable {s : State}

/-! ### Termination, expiry and lapse (R7 to R10, R110 to R112) -/

theorem tame_placeFail (a : BacklogAnswer) (s : State) : Tame s (placeFail a s) := by
  unfold placeFail
  split
  · exact tame_pushTraffic s _
  · exact .frame

theorem tame_setBacklog (b : List BacklogAnswer) (s : State) : Tame s { s with backlog := b } := .frame

theorem tame_answerEntry (r : ActiveRec) (ans : Option Status) (s : State) : Tame s (answerEntry r ans s) := by
  unfold answerEntry
  split
  · exact .refl s
  · split
    · exact (tame_placeFail _ s).trans (tame_lowerCount _ _)
    · exact tame_lowerCount s _
    · exact tame_mapElement s _ _
    · exact (tame_removeElement s _ _).trans (tame_lowerCount _ _)

theorem tagMoves_destState (s : State) (r : ActiveRec) (d : TagDest) :
    TagMoves s.tick.count s.quarantineLimit (.active r) (s.destState r d) := by
  cases d with
  | quarantined => exact .abandoned r _ rfl rfl
  | free => exact .freed _

theorem tame_terminate (t : PoolTag) (ans : Option Status) (dest : TagDest) (s : State) :
    Tame s (terminate t ans dest s) := by
  unfold terminate
  split
  · next r hr =>
    refine (tame_answerEntry r ans s).trans (tame_leaveActive ?_)
    simpa [hr] using tagMoves_destState s r dest
  · exact .refl s

theorem tame_terminateAll (which : ActiveRec → Bool) (ans : Option Status) (dest : TagDest) (s : State) :
    Tame s (terminateAll which ans dest s) := by
  refine Tame.foldl (fun s t => ?_) s _
  split
  · split
    · exact tame_terminate t ans dest s
    · exact .refl s
  · exact .refl s

theorem tame_freeQuarantined (s : State) : Tame s (freeQuarantined s) := by
  refine Tame.foldl (fun s t => ?_) s _
  split
  · exact tame_freeTag t
  · exact .refl s

theorem tame_expireTag (t : PoolTag) (s : State) : Tame s (expireTag t s) := by
  unfold expireTag
  split
  · split
    · exact (tame_report _ _ _ s).trans (tame_terminate t _ _ _)
    · exact .refl s
  · exact .refl s

theorem tame_lapseTag (t : PoolTag) (s : State) : Tame s (lapseTag t s) := by
  unfold lapseTag
  split
  · split
    · exact tame_freeTag t
    · exact .refl s
  · exact .refl s

/-! ### The Response Matcher (chapter 4) -/

theorem tame_endForwarded (r : ActiveRec) (s : State) : Tame s (endForwarded r s) := by
  unfold endForwarded
  split
  · exact tame_lowerCount s _
  · exact (tame_removeElement s _ _).trans (tame_lowerCount _ _)

theorem tame_mapLinked (r : ActiveRec) (f : Element → Element) (s : State) : Tame s (mapLinked r f s) := by
  unfold mapLinked
  split
  · exact .refl s
  · exact tame_mapElement s _ _

/-- The final response of an entry, forwarded. -/
theorem tame_forwardFinal (t : PoolTag) (r : ActiveRec) (b : Body) (s : State) :
    Tame s (leaveActive t .free (endForwarded r (forwardBody r b s))) :=
  ((tame_pushTraffic s _).trans (tame_endForwarded r _)).trans (tame_end t)

/-- The final response of an entry, put by in its element. -/
theorem tame_finishLinked (t : PoolTag) (r : ActiveRec) (f : Element → Element) (s : State) :
    Tame s (leaveActive t .free (mapLinked r f s)) :=
  (tame_mapLinked r f s).trans (tame_end t)

theorem tagMoves_receive {r : ActiveRec} {p : Arrived} (hle : r.received + p.data.length ≤ r.length) (d : Bool) :
    TagMoves s.tick.count s.quarantineLimit (.active r) (.active (r.receive p d)) :=
  .received r _ _ fun _ => hle

theorem tame_forwardData {t : PoolTag} {r : ActiveRec} {p : Arrived} (hr : getAt s.tags t = .active r)
    (hle : r.received + p.data.length ≤ r.length) : Tame s (forwardData t r p s) := by
  unfold forwardData
  dsimp only
  split
  · exact tame_forwardFinal t r _ s
  · exact (tame_pushTraffic s _).trans (tame_setTag (by simpa [forwardBody, hr] using tagMoves_receive hle true))

theorem tame_storeData {t : PoolTag} {r : ActiveRec} {p : Arrived} (hr : getAt s.tags t = .active r)
    (hle : r.received + p.data.length ≤ r.length) : Tame s (storeData t r p s) := by
  have h1 := tame_mapLinked r (fun e => { e with segs := e.segs ++ [p.segment] }) s
  unfold storeData
  dsimp only
  split
  · exact h1.trans (tame_finishLinked t r _ _)
  · exact h1.trans (tame_setTag (by simpa [hr] using tagMoves_receive hle false))

/-- A DATA segment that is consistent with its entry fits the words the entry still awaits (R71). -/
theorem received_le_of_consistent {r : ActiveRec} {p : Arrived} (hk : p.kind = .data) (hc : p.inconsistent r = false) :
    r.received + p.data.length ≤ r.length := by
  unfold Arrived.inconsistent at hc
  cases hr : r.kind with
  | read =>
    simp only [hk, hr, Bool.or_eq_false_iff, decide_eq_false_iff_not, not_lt] at hc
    exact hc.1
  | cwrite => simp [hk, hr] at hc

theorem tame_takeData {t : PoolTag} {r : ActiveRec} {p : Arrived} (hr : getAt s.tags t = .active r)
    (hle : r.received + p.data.length ≤ r.length) : Tame s (takeData t r p s) := by
  have hrep : ∀ u, u = (if p.poison then report .poisonedData (some .rs) (r.ident t) s else s) →
      Tame s u ∧ u.tags = s.tags := by
    rintro u rfl
    split
    · exact ⟨tame_report _ _ _ s, by simp⟩
    · exact ⟨.refl s, rfl⟩
  obtain ⟨h1, htags⟩ := hrep _ rfl
  unfold takeData
  dsimp only
  split
  · exact h1.trans (tame_forwardData (htags ▸ hr) hle)
  · exact h1.trans (tame_storeData (htags ▸ hr) hle)

theorem tame_takeDone (t : PoolTag) (r : ActiveRec) (s : State) : Tame s (takeDone t r s) := by
  unfold takeDone
  split
  · exact tame_end t
  · split
    · exact tame_forwardFinal t r _ s
    · exact tame_finishLinked t r _ s

theorem tame_takeFail (t : PoolTag) (r : ActiveRec) (st : Status) (s : State) : Tame s (takeFail t r st s) := by
  unfold takeFail
  split
  · exact (tame_report _ _ _ s).trans (tame_end t)
  · split
    · exact tame_forwardFinal t r _ s
    · exact tame_finishLinked t r _ s

theorem tame_takeConsistent {t : PoolTag} {r : ActiveRec} {p : Arrived} (hr : getAt s.tags t = .active r)
    (hc : p.inconsistent r = false) : Tame s (takeConsistent t r p s) := by
  unfold takeConsistent
  split
  · next hk => exact tame_takeData hr (received_le_of_consistent hk hc)
  · exact tame_takeDone t r s
  · split
    · exact tame_takeFail t r _ s
    · exact .refl s

theorem tame_takeLate (t : PoolTag) (q : QuarRec) (p : Arrived) (s : State) : Tame s (takeLate t q p s) := by
  unfold takeLate
  dsimp only
  split
  · exact (tame_report _ _ _ s).trans (tame_freeTag t)
  · exact tame_report _ _ _ s

theorem tame_handlePacket (p : Arrived) (s : State) : Tame s (handlePacket p s) := by
  unfold handlePacket
  split
  · exact tame_report _ _ _ s
  · next t _ =>
    split
    · exact tame_report _ _ _ s
    · exact tame_takeLate t _ p s
    · next r hr =>
      split
      · exact (tame_report _ _ _ s).trans (tame_terminate t _ _ _)
      · next hc => exact tame_takeConsistent hr (Bool.not_eq_true _ ▸ hc)

theorem tame_matcherTake (s : State) : Tame s (matcherTake s) := by
  unfold matcherTake
  split
  · exact .refl s
  · next p rest hi =>
    have hpop : Tame s { s with ingress := rest } := .frame (ho := by constructor <;> simp [hi])
    exact (hpop.trans (tame_returnRsCredits _ 1)).trans (tame_handlePacket p _)

/-! ### Draining (R94) -/

theorem tame_setDelivered (t : PoolTag) (s : State) : Tame s (setDelivered t s) := by
  unfold setDelivered
  split
  · next r hr => exact tame_setTag (hr ▸ .received r r.received true id)
  · exact .refl s

theorem tame_markDelivered (e : Element) (s : State) : Tame s (markDelivered e s) := by
  unfold markDelivered
  split
  · exact tame_setDelivered _ s
  · exact .refl s

theorem tame_afterDrain (n : SourceId) (l : SlotId) (e : Element) (s : State) : Tame s (afterDrain n l e s) := by
  unfold afterDrain
  split
  · exact (tame_removeElement s n l).trans (tame_lowerCount _ n)
  · exact (tame_mapElement s l _).trans (tame_markDelivered e _)

theorem tame_drainHead (n : SourceId) (s : State) : Tame s (drainHead n s) := by
  unfold drainHead
  split
  · exact .refl s
  · split
    · exact .refl s
    · split
      · exact .refl s
      · exact (tame_pushTraffic s _).trans (tame_afterDrain n _ _ _)

/-! ### The head (R23 to R42) -/

theorem tame_removeHead (s : State) : Tame s (removeHead s) := by
  refine Tame.trans (.frame (ho := ?_)) (tame_returnRqCredits _ .ordinary 1)
  constructor
  case forward => exact List.map_subset _ (List.tail_subset _)
  all_goals simp

theorem tame_setPhase (p : HeadPhase) (s : State) : Tame s (setPhase p s) := .frame

theorem tame_linkDownHead (req : Request) (cls : IssueClass) (s : State) : Tame s (linkDownHead req cls s) := by
  cases cls with
  | nonPosted => exact tame_setPhase _ s
  | absorbed => exact (tame_report _ _ _ s).trans (tame_removeHead _)
  | plainPosted => exact (tame_report _ _ _ s).trans (tame_removeHead _)

theorem tame_linkDownClassified (s : State) : Tame s (linkDownClassified s) := by
  unfold linkDownClassified
  split
  · split
    · exact tame_linkDownHead _ _ s
    · exact .refl s
  · exact .refl s

theorem tame_classifyHead (req : Request) (s : State) : Tame s (classifyHead req s) := by
  unfold classifyHead
  split
  · unfold refuseHead
    dsimp only
    split
    · exact (tame_report _ _ _ s).trans (tame_removeHead _)
    · exact (tame_report _ _ _ s).trans (tame_setPhase _ _)
  · split
    · exact tame_linkDownHead _ _ s
    · exact tame_setPhase _ s

theorem tame_takeUpHead (s : State) : Tame s (takeUpHead s) := by
  unfold takeUpHead
  split
  · exact .refl s
  · split
    · exact .refl s
    · split
      · exact tame_setPhase _ s
      · exact tame_linkDownClassified s
    · split
      · exact tame_setPhase _ s
      · split
        · exact tame_classifyHead _ s
        · exact .refl s

/-! ### The producers and the ring (R131) -/

theorem tame_serve (p : Producer) (s : State) : Tame s (serve p s) := by
  cases p with
  | malformedList =>
    show Tame s (placeMalformed s)
    unfold placeMalformed
    split
    · exact .refl s
    · exact Tame.trans .frame (tame_returnRqCredits _ _ _)
  | dispatch =>
    show Tame s (placeAnswer s)
    unfold placeAnswer
    split
    · exact (tame_pushTraffic s _).trans (tame_removeHead _)
    · exact .refl s
  | backlog =>
    show Tame s (placeBacklog s)
    unfold placeBacklog
    split
    · exact .refl s
    · exact .frame
  | matcher => exact tame_matcherTake s
  | drain n => exact tame_drainHead n s

theorem tame_placeDirect (p : Producer) (s : State) : Tame s (placeDirect p s) := by
  unfold placeDirect
  split
  · exact tame_serve p s
  · exact .refl s

theorem tame_serveAt (p : Fin 36) (s : State) : Tame s (serveAt p s) := by
  refine (tame_serve (Producer.at p) s).trans ?_
  unfold serveAt
  exact .frame

theorem tame_distribute (before s : State) : Tame s (distribute before s) := by
  refine Tame.foldl (fun s p => ?_) s _
  split
  · exact tame_serveAt p s
  · exact .refl s

theorem tame_matcherStep (s : State) : Tame s (matcherStep s) := by
  unfold matcherStep
  split
  · exact .refl s
  · split
    · exact (tame_matcherTake s).trans (tame_distribute s _)
    · exact tame_matcherTake s

/-! ### Transmission (R132, R163) -/

theorem tame_sendRq (ws : List Word) (s : State) : Tame s (sendRq ws s) := by
  unfold sendRq
  exact .frame

theorem tame_transmitTraffic (s : State) : Tame s (transmitTraffic s) := by
  unfold transmitTraffic
  split
  · exact .refl s
  · next r rest _ =>
    have h1 : Tame s (sendRq (packResponse r) { s with trafficQueue := rest }) := Tame.trans .frame (tame_sendRq _ _)
    dsimp only
    split
    · exact h1
    · refine h1.trans ?_
      unfold givePlace
      split
      · exact tame_serveAt _ _
      · exact .refl _

/-- The Alert Unit changes in what no write sets. -/
theorem tame_setAlert {a : AlertUnit} (h : SameAlertSettings s.alert a) : Tame s { s with alert := a } := by
  refine .frame ?_
  constructor
  case alertDest => exact h.dest
  case enables => exact ⟨h.enable .fatal, h.enable .nonfatal, h.enable .advisory⟩
  all_goals simp

theorem tame_transmit (s : State) : Tame s (transmit s) := by
  unfold transmit
  split
  · next c _ _ =>
    have hsent : SameAlertSettings s.alert (s.alert.sent c) := sameAlertSettings_setCls s.alert rfl
    exact (tame_setAlert hsent).trans (tame_sendRq _ _)
  · split
    · exact Tame.trans .frame (tame_sendRq _ _)
    · exact tame_transmitTraffic s

/-! ### The links (R134 to R137) -/

theorem sameAlertSettings_linkLoss (a : AlertUnit) : SameAlertSettings a a.linkLoss :=
  ⟨⟨rfl, rfl⟩, fun c => by cases c <;> rfl⟩

theorem tame_rqDown (s : State) : Tame s (rqDown s) := by
  have h1 : Tame s { s with
      rqLink := .down, rqCredits := 0, forwardQueue := [], headPhase := .new, mgmtQueue := [], mgmtSlots := [],
      trafficQueue := [], malformedList := [] } := .frame
  have h2 := ((h1.trans (tame_terminateAll ActiveRec.counted none .quarantined _)).trans (tame_clearCounts _)).trans
    (tame_clearLists _)
  have hlast : ∀ u : State, Tame u { u with backlog := [], alert := u.alert.linkLoss } := fun u =>
    (tame_setBacklog [] u).trans (tame_setAlert (sameAlertSettings_linkLoss u.alert))
  exact (h2.trans (hlast _)).trans (tame_report _ _ _ _)

theorem tame_rsDown (s : State) : Tame s (rsDown s) := by
  have h1 : Tame s { s with rsLink := .down, rsCredits := 0, ingress := [] } := .frame
  have h2 := (h1.trans (tame_terminateAll (fun _ => true) (some .linkDown) .free _)).trans (tame_freeQuarantined _)
  exact ((h2.trans (tame_linkDownClassified _)).trans (tame_report _ _ _ _)).trans (tame_distribute s _)

theorem tame_putRq (x : WireItem) (s : State) : Tame s (putRq x s) := .frame

theorem tame_putRs_restart (s : State) : Tame s (putRs .restart s) :=
  .frame (hp := by exact packetsOn_append s.rsWire [.restart])

theorem tame_rqFramingFailure (s : State) : Tame s (rqFramingFailure s) :=
  (tame_rqDown s).trans (tame_putRq .restart _)

theorem tame_rsFramingFailure (s : State) : Tame s (rsFramingFailure s) :=
  (tame_rsDown s).trans (tame_putRs_restart _)

theorem tame_rqUp (s : State) : Tame s (rqUp s) := by
  have h1 : Tame s { s with rqLink := .up, rqCredits := 0 } := .frame
  exact (h1.trans (tame_returnRqCredits _ _ _)).trans (tame_returnRqCredits _ _ _)

theorem tame_rsUp (s : State) : Tame s (rsUp s) := by
  have h1 : Tame s { s with rsLink := .up, rsCredits := 0 } := .frame
  exact h1.trans (tame_returnRsCredits _ _)

/-! ### HALT, FLUSH_SOURCE and SOFT_RESET (R176, R180, R182) -/

theorem tame_haltQueue (s : State) : Tame s (haltQueue s) := by
  refine Tame.trans (.frame (ho := ?_)) (tame_returnRqCredits _ .ordinary _)
  constructor
  case forward =>
    intro r hr
    simp only [markHalted, List.map_map, List.mem_map, List.mem_filter] at hr
    obtain ⟨w, ⟨hw, -⟩, rfl⟩ := hr
    exact List.mem_map.mpr ⟨w, hw, rfl⟩
  all_goals simp

theorem tame_takeHalt (s : State) : Tame s (takeHalt s) := by
  have h1 : Tame s { s with haltRequested := false } := .frame
  unfold takeHalt
  split
  · dsimp only
    split
    · exact h1
    · have h2 : Tame s { s with haltRequested := false, opState := .halted } := .frame
      exact ((h2.trans (tame_terminateAll (fun _ => true) (some .halted) .quarantined _)).trans
        (tame_haltQueue _)).trans (tame_distribute _ _)
  · exact .refl s

theorem tame_flushSource (n : SourceId) (s : State) : Tame s (flushSource n s) := by
  have hqueue : Tame s (flushQueue n s) := by
    refine Tame.trans (.frame (ho := ?_)) (tame_returnRqCredits _ .ordinary _)
    constructor
    case forward => exact List.map_subset _ (List.filter_subset_self _)
    all_goals simp
  have hlist : ∀ u, Tame u (flushList n u) := fun u => Tame.foldl (fun s l => tame_removeElement s n l) u _
  have h1 := hqueue.trans (tame_terminateAll (fun r => r.counted && decide (r.source = n)) none .quarantined _)
  have hlast : ∀ u : State, Tame u (mapCount n (fun _ => 0)
      { u with backlog := u.backlog.filter fun a => decide (a.source ≠ n) }) := fun u =>
    (tame_setBacklog _ u).trans (tame_mapCount _ n _)
  exact (h1.trans (hlist _)).trans (hlast _)

end

end Sys2Proof.Machine
end

section
/-! PROOF. `Legal`: the loaded values, the queues and the records, and what moves them: a tame operation, the Tick
Generator, issue and an arrival. -/

namespace Sys2Proof.Machine

/-! ### The records (R3, R4, R10, R71, R110) -/

/-- What an entry is, whatever its age. -/
structure EntrySound (r : ActiveRec) : Prop where
  link : r.ordered = true ↔ r.link.isSome = true
  absorbed : r.absorbed = true → r.ordered = false ∧ r.kind = .cwrite
  confirmed : r.kind = .cwrite → r.length = 0
  length : r.length ≤ 64
  received : r.received ≤ r.length

/-- An entry, if the tag holds one, is not due to expire. -/
def NotExpired (now : Tick) (x : TagState) : Prop :=
  ∀ r, x = .active r → (now - r.issueTick).toNat < r.limit.toNat

/-- A quarantine, if the tag is in one, is not due to lapse. -/
def NotLapsed (now : Tick) (x : TagState) : Prop :=
  ∀ q, x = .quarantined q → (now - q.startTick).toNat < q.limit.toNat

theorem ne_zero_of_lt_toNat {n : Nat} {x : BitVec 12} (h : n < x.toNat) : x ≠ 0#12 := by
  rintro rfl
  exact Nat.not_lt_zero n h

theorem toNat_pos_of_ne_zero {x : BitVec 12} (h : x ≠ 0#12) : 0 < x.toNat :=
  Nat.pos_of_ne_zero fun hz => h (BitVec.eq_of_toNat_eq hz)

/-- A limit that has not run out is not 0, so the limits need no word of their own. -/
theorem recordsSound_iff (s : State) :
    RecordsSound s ↔ ∀ t, (∀ r, getAt s.tags t = .active r → EntrySound r) ∧
      NotExpired s.tick.count (getAt s.tags t) ∧ NotLapsed s.tick.count (getAt s.tags t) := by
  constructor
  · exact fun h t => ⟨fun r hr =>
      ⟨h.link t r hr, h.absorbed t r hr, h.confirmed t r hr, h.length t r hr, h.received t r hr⟩,
      h.timely t, h.quarTimely t⟩
  · exact fun h =>
      { limit := fun t r hr => ne_zero_of_lt_toNat ((h t).2.1 r hr)
        link := fun t r hr => ((h t).1 r hr).link
        absorbed := fun t r hr => ((h t).1 r hr).absorbed
        confirmed := fun t r hr => ((h t).1 r hr).confirmed
        length := fun t r hr => ((h t).1 r hr).length
        received := fun t r hr => ((h t).1 r hr).received
        timely := fun t => (h t).2.1
        quarLimit := fun t q hq => ne_zero_of_lt_toNat ((h t).2.2 q hq)
        quarTimely := fun t => (h t).2.2 }

section

variable {now : Tick} {limit : BitVec 12} {x y : TagState}

theorem TagMoves.entrySound (h : TagMoves now limit x y) (hx : ∀ r, x = .active r → EntrySound r) (r : ActiveRec)
    (hr : y = .active r) : EntrySound r := by
  subst hr
  obtain ⟨p, n, d, hp, rfl, hle⟩ := h.of_active
  obtain ⟨hlink, habs, hconf, hlen, hrec⟩ := hx p hp
  exact ⟨hlink, habs, hconf, hlen, hle hrec⟩

theorem TagMoves.notExpired (h : TagMoves now limit x y) (hx : NotExpired now x) : NotExpired now y := by
  rintro r rfl
  obtain ⟨p, n, d, hp, rfl, -⟩ := h.of_active
  exact hx p hp

theorem TagMoves.notLapsed (h : TagMoves now limit x y) (hl : limit ≠ 0#12) (hx : NotLapsed now x) :
    NotLapsed now y := by
  rintro q rfl
  rcases h.of_quarantined with hq | ⟨rfl, rfl⟩
  · exact hx q hq
  · rw [BitVec.sub_self]
    exact toNat_pos_of_ne_zero hl

end

/-! ### The loaded values (R46, R53, R61, R62, R105) -/

/-- A window of permitted size on permitted bases (R53). -/
def WindowFits (w : Window) : Prop := (12 ≤ w.sizeExp.toNat ∧ w.sizeExp.toNat ≤ 40) ∧ AlignedWindow w

theorem Loaded.window {s : State} (h : Loaded s) (b : Fin 2) (w : Fin 16) : WindowFits (getAt (getAt s.banks b) w) :=
  ⟨h.size b w, h.base b w, h.transBase b w⟩

theorem Loaded.frame {s u : State} (h : Loaded s)
    (hq : ∀ n, (getAt u.sources n).quota = (getAt s.sources n).quota := by simp)
    (hb : u.banks = s.banks := by simp) (ht : u.timeoutLimits = s.timeoutLimits := by simp)
    (hl : u.quarantineLimit = s.quarantineLimit := by simp)
    (hg : u.tick.reload = s.tick.reload ∧ u.tick.pendingPeriod = s.tick.pendingPeriod ∧
      u.tick.division = s.tick.division ∧ u.tick.prescale = s.tick.prescale := by simp) : Loaded u := by
  obtain ⟨hr, hp, hd, hs⟩ := hg
  exact
    { quota := fun n => by rw [hq]; exact h.quota n
      size := by rw [hb]; exact h.size
      base := by rw [hb]; exact h.base
      transBase := by rw [hb]; exact h.transBase
      timeout := by rw [ht]; exact h.timeout
      quarantine := by rw [hl]; exact h.quarantine
      reload := by rw [hr]; exact h.reload
      pendingReload := by rw [hp]; exact h.pendingReload
      division := by rw [hd, hs]; exact h.division }

theorem Loaded.same {s u : State} (h : Loaded s) (hs : SameSettings s u) (ht : u.tick = s.tick) : Loaded u :=
  h.frame (fun n => by simpa using congrArg SourceEntry.quota (hs.configuration n))
    hs.banks.1 hs.limits.1 hs.limits.2 (by simp [ht])

theorem Prescale.divisor_pos (p : Prescale) : 0 < p.divisor := by
  cases p <;> exact Nat.succ_pos _

theorem Loaded.underflow {s : State} (h : Loaded s) : Loaded { s with tick := s.tick.underflow } :=
  { h with
    reload := by
      unfold TickGen.underflow
      cases hp : s.tick.pendingPeriod with
      | none => exact h.reload
      | some p => exact h.pendingReload p hp
    pendingReload := nofun
    division := Prescale.divisor_pos _ }

/-! ### The claims together -/

/-- The three claims of the statement. -/
structure Legal (s : State) : Prop where
  loaded : Loaded s
  sorted : Sorted s
  records : RecordsSound s

/-- The state that a command finds when the invariant held before the step. -/
theorem Inv.legal {s u : State} (h : Inv s) (hu : u = { s with pending := u.pending }) : Legal u := by
  rw [hu]
  exact ⟨{ h.loaded with }, { h.sorted with }, { h.records with }⟩

section

variable {s u : State}

theorem Sorted.orderly (h : Sorted s) (ho : Orderly s u) : Sorted u where
  ordinary w hw := by
    obtain ⟨v, hv, hreq⟩ := List.mem_map.mp (ho.forward (List.mem_map_of_mem hw))
    rw [← hreq]
    exact h.ordinary v hv
  management r hr := h.management r (ho.management hr)
  data p hp := h.data p (ho.ingress hp)
  noData p hp := h.noData p (ho.ingress hp)

theorem RecordsSound.orderly (h : RecordsSound s) (ho : Orderly s u) (hl : s.quarantineLimit ≠ 0#12) :
    RecordsSound u := by
  rw [recordsSound_iff] at h ⊢
  intro t
  obtain ⟨he, hx, hq⟩ := h t
  rw [ho.tick]
  exact ⟨(ho.tags t).entrySound he, (ho.tags t).notExpired hx, (ho.tags t).notLapsed hl hq⟩

/-- An operation that leaves the queues and the entries in order and the loaded values permitted. -/
theorem Legal.frame (h : Legal s) (hl : Loaded u) (ho : Orderly s u := by constructor <;> simp) : Legal u :=
  ⟨hl, h.sorted.orderly ho, h.records.orderly ho h.loaded.quarantine⟩

theorem Tame.legal (f : Tame s u) (h : Legal s) : Legal u :=
  h.frame (h.loaded.same f.toSameSettings f.tick) f.toOrderly

/-! ### The Tick Generator (R106 to R112) -/

/-- The Tick Generator moves and the tick count stays. -/
theorem Legal.setTick (h : Legal s) {g : TickGen} (hc : g.count = s.tick.count) (hl : Loaded { s with tick := g }) :
    Legal { s with tick := g } := by
  have hr := h.records
  refine ⟨hl, { h.sorted with }, ?_⟩
  rw [recordsSound_iff] at hr ⊢
  simpa only [hc] using hr

theorem notExpired_expireTag (t : PoolTag) (s : State) :
    NotExpired s.tick.count (getAt (expireTag t s).tags t) := by
  intro r hr
  unfold expireTag at hr
  split at hr
  · next p hp =>
    split at hr
    · exact absurd rfl (active_of_terminate hr).2
    · next hdue =>
      obtain rfl := TagState.active.inj (hp.symm.trans hr)
      exact Nat.lt_of_not_le fun hle => hdue (decide_eq_true hle)
  · next hn => exact absurd hr (hn r)

theorem notLapsed_lapseTag (t : PoolTag) (s : State) : NotLapsed s.tick.count (getAt (lapseTag t s).tags t) := by
  intro q hq
  unfold lapseTag at hq
  split at hq
  · next p hp =>
    split at hq
    · rw [getAt_tags_setTag, if_pos rfl] at hq
      exact nomatch hq
    · next hdue =>
      obtain rfl := TagState.quarantined.inj (hp.symm.trans hq)
      exact Nat.lt_of_not_le fun hle => hdue (decide_eq_true hle)
  · next hn => exact absurd hq (hn q)

/-- What an operation settles for its own tag, and later operations keep, a run over the tags settles for all. -/
theorem settled_by_foldl {g : PoolTag → State → State} {P : Tick → TagState → Prop} (hg : ∀ t s, Tame s (g t s))
    (hdone : ∀ t s, P s.tick.count (getAt (g t s).tags t))
    (hkeep : ∀ {now limit x y}, limit ≠ 0#12 → TagMoves now limit x y → P now x → P now y) (l : List PoolTag)
    (s : State)
    (hl : s.quarantineLimit ≠ 0#12) (t : PoolTag) (ht : t ∈ l) :
    P s.tick.count (getAt (l.foldl (fun s t => g t s) s).tags t) := by
  induction l generalizing s with
  | nil => exact absurd ht List.not_mem_nil
  | cons a l ih =>
    have htick := (hg a s).tick
    have hlimit := (hg a s).limits.2
    rcases List.mem_cons.mp ht with rfl | ht
    · have hrest : Tame (g t s) (l.foldl (fun s t => g t s) (g t s)) := Tame.foldl (fun s t => hg t s) _ l
      have hmove := hrest.tags t
      rw [htick, hlimit] at hmove
      exact hkeep hl hmove (hdone t s)
    · rw [← htick]
      exact ih (g a s) (hlimit ▸ hl) ht

theorem tame_expirePass (s : State) : Tame s ((List.finRange 64).foldl (fun s t => expireTag t s) s) :=
  .foldl (fun s t => tame_expireTag t s) s _

theorem tame_lapsePass (s : State) : Tame s ((List.finRange 64).foldl (fun s t => lapseTag t s) s) :=
  .foldl (fun s t => tame_lapseTag t s) s _

theorem Tame.expireAndLapse (s : State) : Tame s (expireAndLapse s) :=
  (tame_expirePass s).trans (tame_lapsePass _)

/-- After the expiries and the lapses of a tick event no tag is due (R110). -/
theorem nothingDue_expireAndLapse (hl : s.quarantineLimit ≠ 0#12) (t : PoolTag) :
    NotExpired s.tick.count (getAt (expireAndLapse s).tags t) ∧
      NotLapsed s.tick.count (getAt (expireAndLapse s).tags t) := by
  have hexp := settled_by_foldl (P := NotExpired) (fun t s => tame_expireTag t s) notExpired_expireTag
    (fun _ hm => hm.notExpired) (List.finRange 64) s hl t (List.mem_finRange t)
  have hx := tame_expirePass s
  unfold Machine.expireAndLapse
  generalize (List.finRange 64).foldl (fun s t => expireTag t s) s = v at hx hexp ⊢
  rw [← hx.tick] at hexp ⊢
  exact ⟨((tame_lapsePass v).tags t).notExpired hexp,
    settled_by_foldl (fun t s => tame_lapseTag t s) notLapsed_lapseTag (fun hl hm => hm.notLapsed hl) _ v
      (hx.limits.2 ▸ hl) t (List.mem_finRange t)⟩

theorem Legal.tickEvent (h : Legal s) : Legal (tickEvent s) := by
  have hl := h.loaded.underflow
  have hwork := Tame.expireAndLapse { s with tick := s.tick.underflow }
  have hdue := nothingDue_expireAndLapse hl.quarantine
  refine (tame_distribute s _).legal ⟨hl.same hwork.toSameSettings hwork.tick,
    Sorted.orderly (s := { s with tick := s.tick.underflow }) { h.sorted with } hwork.toOrderly, ?_⟩
  rw [recordsSound_iff, hwork.tick]
  exact fun t => ⟨(hwork.tags t).entrySound (((recordsSound_iff s).mp h.records t).1), hdue t⟩

theorem Legal.prescaledStep (h : Legal s) : Legal (prescaledStep s) := by
  unfold Machine.prescaledStep
  split
  · exact h.tickEvent
  · exact h.setTick rfl { h.loaded with }

/-! ### Issue (R3, R37 to R41) -/

/-- A tag becomes ACTIVE with a record that is sound and not yet due. -/
theorem Legal.setEntry (h : Legal s) {r : ActiveRec} (hr : EntrySound r) (ht : NotExpired s.tick.count (.active r))
    (t : PoolTag) : Legal (setTag t (.active r) s) := by
  refine ⟨{ h.loaded with }, { h.sorted with }, (recordsSound_iff _).mpr fun g => ?_⟩
  rw [getAt_tags_setTag]
  split
  · exact ⟨fun q hq => TagState.active.inj hq ▸ hr, ht, nofun⟩
  · exact (recordsSound_iff s).mp h.records g

theorem Legal.sendRequest (h : Legal s) (req : Request) (c : Classified) (tag : BitVec 8) :
    Legal (sendRequest req c tag s) :=
  h.frame h.loaded.frame

theorem tame_countIssue (req : Request) (c : Classified) (s : State) : Tame s (countIssue req c s) := by
  unfold countIssue
  split
  · exact tame_mapCount s _ _
  · exact .refl s

theorem tame_appendElement (n : SourceId) (l : SlotId) (e : Element) (s : State) : Tame s (appendElement n l e s) :=
  .frame

/-- The record of a head that fits its classification result (R3). -/
theorem entrySound_issueRecord (s : State) {q : Request} {c : Classified} {link : Option SlotId} (hp : PlanFits q c)
    (hlen : q.length ≤ 64) (hlink : link.isSome = c.ordered) : EntrySound (s.issueRecord q c link) where
  link := by
    show c.ordered = true ↔ link.isSome = true
    rw [hlink]
  absorbed ha := by
    have hc : c.cls = .absorbed := of_decide_eq_true ha
    refine ⟨Bool.eq_false_iff.mpr fun ho => (nomatch hc.symm.trans (hp.ordered ho)), ?_⟩
    have hk : q.kind = .write := not_not.mp fun hk => (nomatch hc.symm.trans (hp.cls.mpr hk))
    show entryKind q.kind = .cwrite
    rw [hk]; rfl
  confirmed hk := if_neg fun hr => by
    have hk : entryKind q.kind = .cwrite := hk
    rw [hr] at hk
    exact nomatch hk
  length := by
    show (if q.kind = .read then q.length else 0) ≤ 64
    split
    · exact hlen
    · exact Nat.zero_le _
  received := Nat.zero_le _

theorem notExpired_issueRecord (h : Loaded s) (q : Request) (c : Classified) (link : Option SlotId) :
    NotExpired s.tick.count (.active (s.issueRecord q c link)) := by
  intro r hr
  obtain rfl := TagState.active.inj hr
  show (s.tick.count - s.tick.count).toNat < (getAt s.timeoutLimits c.timeoutClass).toNat
  rw [BitVec.sub_self]
  exact toNat_pos_of_ne_zero (h.timeout _)

theorem Legal.issueWith (h : Legal s) (hh : HeadSound s) {q : Request} {c : Classified} {g : Grant}
    (hi : s.issuable = some (q, c, g)) : Legal (issueWith q c s g) := by
  obtain ⟨w, rest, hq, hp, rfl, hg⟩ := issuable_some hi
  have hplan : PlanFits w.req c := ⟨hh.cls w rest c hq hp, hh.ordered w rest c hq hp, hh.reservation w rest c hq hp⟩
  have hlen : w.req.length ≤ 64 := (h.sorted.ordinary w (by simp [hq])).1.length.2
  have hentry : ∀ (t : PoolTag) {link}, link.isSome = c.ordered →
      Legal (setTag t (.active (s.issueRecord w.req c link)) s) := fun t _ hlink =>
    h.setEntry (entrySound_issueRecord s hplan hlen hlink) (notExpired_issueRecord h.loaded _ _ _) t
  rcases grant_cases hg with ⟨-, rfl⟩ | ⟨t, -, -, ⟨hord, rfl⟩ | ⟨l, hord, -, -, rfl⟩⟩
  · exact (tame_removeHead _).legal (h.sendRequest _ _ _)
  · exact (tame_removeHead _).legal (((tame_countIssue _ _ _).legal
      (hentry t (link := none) hord.symm)).sendRequest _ _ _)
  · exact (tame_removeHead _).legal (((tame_countIssue _ _ _).legal
      ((tame_appendElement _ _ _ _).legal (hentry t (link := some l) hord.symm))).sendRequest _ _ _)

theorem Legal.issueNow (h : Legal u) (hh : HeadSound u) : Legal (issueNow u) := by
  unfold Machine.issueNow
  split
  · next hi => exact h.issueWith hh hi
  · exact h

/-! ### What arrives (R120 to R129) -/

/-- A request that no format check refuses (R126). -/
theorem wellFormed_of_not_malformed {r : Request} {p : PoolCode} (h : r.malformed p = false) :
    WellFormedRequest r ∧ (p = .ordinary → r.address.toNat < 0xFFFFFF0000) ∧
      (p = .management → 0xFFFFFF0000 ≤ r.address.toNat) := by
  simp only [Request.malformed, inAperture, Config.apertureBase, Bool.or_eq_false_iff, decide_eq_false_iff_not,
    Bool.and_eq_false_iff, Bool.not_eq_false', List.isEmpty_iff, not_lt, not_not] at h
  obtain ⟨⟨⟨⟨⟨⟨hzero, hlen⟩, hwrite⟩, hread⟩, halign⟩, hord⟩, hmgmt⟩ := h
  refine ⟨⟨⟨Nat.pos_of_ne_zero hzero, hlen⟩, ?_, halign⟩, 
    fun hp => Nat.lt_of_not_le (of_decide_eq_false (hord.resolve_left (not_not_intro hp))),
    fun hp => of_decide_eq_true (hmgmt.resolve_left (not_not_intro hp))⟩
  split
  · next hk => rw [hread.resolve_left (not_not_intro hk), List.length_nil]
  · next hk => exact hwrite.resolve_left hk

theorem tame_takeMalformed (r : Request) (p : PoolCode) (s : State) : Tame s (takeMalformed r p s) := by
  have h1 := tame_report .malformedRequest (some .rq) r.ident s
  unfold takeMalformed answerMalformed
  dsimp only
  split
  · exact h1.trans (tame_returnRqCredits _ p 1)
  · split
    · exact (h1.trans (tame_pushTraffic _ _)).trans (tame_returnRqCredits _ p 1)
    · exact h1.trans .frame

/-- The number of a response's data words fits its kind (R129). -/
def CountFits (p : Arrived) : Prop :=
  (p.kind = .data → 1 ≤ p.data.length ∧ p.data.length ≤ 16) ∧ (p.kind ≠ .data → p.data = [])

theorem countFits_of_not_malformed {k : RespKind} {w0 : Word} {data : List Word} {far : SourceId}
    (h : responseMalformed k w0 data far = false) : CountFits (parseResponse k w0 data) := by
  simp only [responseMalformed, Bool.or_eq_false_iff, decide_eq_false_iff_not, not_not] at h
  obtain ⟨⟨hk, hlen⟩, -⟩ := h
  cases k with
  | data =>
    simp only [Bool.or_eq_false_iff, decide_eq_false_iff_not, not_lt] at hk
    exact ⟨fun _ => (show 1 ≤ data.length ∧ data.length ≤ 16 by omega), fun hn => absurd rfl hn⟩
  | done => exact ⟨nofun, fun _ => List.eq_nil_of_length_eq_zero (hlen.trans (by simpa using hk))⟩
  | fail => exact ⟨nofun, fun _ => List.eq_nil_of_length_eq_zero (hlen.trans (by simpa using hk))⟩

/-! ### What a command that is no management row does before the issue at its end -/

/-- A tame operation, a step of the down counter, or a packet that the ports let in. -/
inductive Work (s : State) : State → Prop
  | tame {u : State} (h : Tame s u) : Work s u
  | prescaled : Work s (prescaledStep s)
  | ordinary (r : Request) (m : Bool) (h : WellFormedRequest r) (ha : r.address.toNat < 0xFFFFFF0000) :
      Work s { s with forwardQueue := s.forwardQueue ++ [{ req := r, mark := m }] }
  | management (r : Request) (h : WellFormedRequest r) (ha : 0xFFFFFF0000 ≤ r.address.toNat) :
      Work s { s with mgmtQueue := s.mgmtQueue ++ [r] }
  | response (p : Arrived) (h : CountFits p) : Work s { s with ingress := s.ingress ++ [p] }

theorem forall_mem_append_singleton {α : Type} {P : α → Prop} {l : List α} {x : α} (hl : ∀ y ∈ l, P y) (hx : P x) :
    ∀ y ∈ l ++ [x], P y :=
  List.forall_mem_append.mpr ⟨hl, List.forall_mem_singleton.mpr hx⟩

theorem Work.legal (w : Work s u) (h : Legal s) : Legal u := by
  cases w with
  | tame ht => exact ht.legal h
  | prescaled => exact h.prescaledStep
  | ordinary r m hwf ha =>
    exact ⟨{ h.loaded with },
      { h.sorted with ordinary := forall_mem_append_singleton h.sorted.ordinary ⟨hwf, ha⟩ }, { h.records with }⟩
  | management r hwf ha =>
    exact ⟨{ h.loaded with },
      { h.sorted with management := forall_mem_append_singleton h.sorted.management ⟨hwf, ha⟩ }, { h.records with }⟩
  | response p hp =>
    exact ⟨{ h.loaded with },
      { h.sorted with
        data := forall_mem_append_singleton h.sorted.data hp.1
        noData := forall_mem_append_singleton h.sorted.noData hp.2 }, { h.records with }⟩

theorem work_admitRq {p : PoolCode} (hp : p ≠ .ret) (words : List Word) (check : BitVec 16) (s : State) :
    Work s (admitRq p words check s) := by
  have hkind : ∀ ws, Tame s (failKind p ws s) := fun ws =>
    (tame_returnRqCredits s p 1).trans (tame_report _ _ _ _)
  unfold admitRq
  split
  · exact .tame (tame_report _ _ _ s)
  · split
    · unfold takeRqPacket
      split
      · split
        · dsimp only
          split
          · exact .tame (tame_takeMalformed _ p s)
          · next hm =>
            obtain ⟨hwf, hord, hmgmt⟩ := wellFormed_of_not_malformed (Bool.not_eq_true _ ▸ hm)
            unfold sortRequest joinForward
            split
            · next hpm => exact .management _ hwf (hmgmt hpm)
            · next hpm =>
              split
              · exact .tame ((tame_report _ _ _ s).trans (tame_returnRqCredits _ _ _))
              · refine .ordinary _ _ hwf (hord ?_)
                cases p with
                | ordinary => rfl
                | management => exact absurd rfl hpm
                | ret => exact absurd rfl hp
        · exact .tame (hkind _)
      · exact .tame (hkind _)
    · exact .tame ((tame_returnRqCredits s p 1).trans (tame_report _ _ _ _))

theorem work_admitRs (words : List Word) (check : BitVec 16) (s : State) : Work s (admitRs words check s) := by
  have hformat : ∀ ws, Tame s (failFormat ws s) := fun ws => (tame_returnRsCredits s 1).trans (tame_report _ _ _ _)
  unfold admitRs
  split
  · exact .tame (tame_report _ _ _ s)
  · split
    · unfold takeRsPacket
      split
      · exact .tame (hformat _)
      · split
        · exact .tame (hformat _)
        · split
          · exact .tame (hformat _)
          · next hm => exact .response _ (countFits_of_not_malformed (Bool.not_eq_true _ ▸ hm))
    · exact .tame ((tame_returnRsCredits s 1).trans (tame_report _ _ _ _))

end

end Sys2Proof.Machine
end

section
/-! PROOF. What a command does, said once: a command that is no row of the Management Agent, and a row; with it every
step keeps `Legal`. -/

namespace Sys2Proof.Machine

open Host (Outcome)

section

variable {s u t : State}

/-! ### The commands that are no management rows -/

/-- How a command that is no row ends: with its work, or with the issue of a head that the work sets free (R37). -/
def Ends (s t : State) : Prop :=
  Work s t ∨ ∃ u, Work s u ∧ (Steady s → HeadSound u) ∧ t = issueNow u

theorem Work.ends (w : Work s t) : Ends s t := .inl w

theorem Work.refl (s : State) : Work s s := .tame (.refl s)

theorem Work.issueAfter (w : Work s u) (hh : Steady s → HeadSound u) : Ends s (issueAfter s u) := by
  unfold Machine.issueAfter
  split
  · exact .inr ⟨u, w, hh, rfl⟩
  · exact w.ends

theorem Ends.ite {p : Prop} [Decidable p] {v : State} (hu : p → Ends s u) (hv : Ends s v) :
    Ends s (if p then u else v) := by
  split
  · next hp => exact hu hp
  · exact hv

theorem ends_self (s : State) : Ends s s := (Work.refl s).ends

theorem Ends.of_next (h : Ends s u) (ht : (Outcome.next u : Outcome State Fault Refusal) = .next t) : Ends s t :=
  Outcome.next.inj ht ▸ h

theorem ends_issue (ht : execIssue s = .next t) : Ends s t := by
  obtain rfl := Outcome.next.inj ht
  split
  · next hi =>
    split
    · exact ends_self s
    · exact .inr ⟨s, .refl s, Steady.head, by simp [issueNow, hi]⟩
  · exact ends_self s

theorem ends_issuePlainPosted (ht : execIssuePlainPosted s = .next t) : Ends s t := by
  obtain rfl := Outcome.next.inj ht
  split
  · next hi =>
    split
    · exact .inr ⟨s, .refl s, Steady.head, by simp [issueNow, hi]⟩
    · exact ends_self s
  · exact ends_self s

theorem ends_rqArrival {framing : BitVec 8} {words : List Word} {check : BitVec 16}
    (ht : execRqArrival framing words check s = .next t) : Ends s t := by
  obtain rfl := Outcome.next.inj ht
  refine .ite (fun _ => ends_self s) ?_
  split
  · exact (work_admitRq (p := .ordinary) nofun _ _ s).ends
  · exact (work_admitRq (p := .management) nofun _ _ s).ends
  · exact (Work.tame (tame_rqFramingFailure s)).ends

theorem ends_rsArrival {framing : BitVec 8} {words : List Word} {check : BitVec 16}
    (ht : execRsArrival framing words check s = .next t) : Ends s t := by
  obtain rfl := Outcome.next.inj ht
  refine .ite (fun _ => ends_self s) ?_
  split
  · exact (work_admitRs _ _ s).ends
  · exact (Work.tame (tame_rsFramingFailure s)).ends

theorem tame_setRsCredits (n : Nat) (s : State) : Tame s { s with rsCredits := n } := .frame

theorem tame_setRqCredits (n : Nat) (s : State) : Tame s { s with rqCredits := n } := .frame

theorem ends_creditReturn {port : PortId} {byte : BitVec 8} (ht : execCreditReturnIndication port byte s = .next t) :
    Ends s t := by
  obtain rfl := Outcome.next.inj ht
  cases port with
  | rq =>
    exact .ite (fun _ => ends_self s) (.ite (fun _ => (Work.tame (tame_setRqCredits _ s)).ends)
      (Work.tame (tame_rqFramingFailure s)).ends)
  | rs =>
    exact .ite (fun _ => ends_self s) (.ite
      (fun _ => (Work.tame (tame_setRsCredits _ s)).issueAfter fun h => h.head.frame rfl rfl id fun _ => le_rfl)
      (Work.tame (tame_rsFramingFailure s)).ends)

/-- A tick event is the step of a down counter that stands at 0 (R106). -/
theorem prescaledStep_of_zero (h : s.tick.downCounter = 0#16) : prescaledStep s = tickEvent s := if_pos h

theorem ends_prescaledStep (s : State) : Ends s (issueAfter s (prescaledStep s)) :=
  Work.prescaled.issueAfter fun h => h.prescaledStep.head

/-- Every command that is neither a row of the Management Agent nor a device reset. -/
theorem ends_exec {i : Instr} (hrow : ∀ row : MgmtRow, i ≠ row.command) (hreset : ∀ n, i ≠ .deviceReset n)
    (ht : exec i s = .next t) : Ends s t := by
  have htame : ∀ {u}, Tame s u → Ends s u := fun h => (Work.tame h).ends
  cases i with
  | deviceReset n => exact absurd rfl (hreset n)
  | rqLinkUp => exact (Ends.ite (fun _ => ends_self s) (htame (tame_rqUp s))).of_next ht
  | rqLinkDown => exact (Ends.ite (fun _ => htame (tame_rqDown s)) (ends_self s)).of_next ht
  | rsLinkUp => exact (Ends.ite (fun _ => ends_self s) (htame (tame_rsUp s))).of_next ht
  | rsLinkDown => exact (Ends.ite (fun _ => htame (tame_rsDown s)) (ends_self s)).of_next ht
  | rqArrival framing words check => exact ends_rqArrival ht
  | rsArrival framing words check => exact ends_rsArrival ht
  | creditReturnIndication port byte => exact ends_creditReturn ht
  | tickEvent =>
    refine (Ends.ite (fun hc => ?_) (ends_self s)).of_next ht
    rw [← prescaledStep_of_zero hc.2]
    exact ends_prescaledStep s
  | expiry tag =>
    exact ((Work.tame ((tame_expireTag tag s).trans (tame_distribute s _))).issueAfter fun h =>
      ((h.expireTag tag).distribute s).head).of_next ht
  | lapse tag => exact ((Work.tame (tame_lapseTag tag s)).issueAfter fun h => (h.lapseTag tag).head).of_next ht
  | classification => exact (htame (tame_takeUpHead s)).of_next ht
  | issue => exact ends_issue ht
  | issuePlainPosted => exact ends_issuePlainPosted ht
  | answerPlacement => exact (htame (tame_placeDirect _ s)).of_next ht
  | backlogEntry =>
    exact ((Work.tame (tame_placeDirect _ s)).issueAfter fun h => (h.placeDirect .backlog).head).of_next ht
  | malformedAnswerEntry => exact (htame (tame_placeDirect _ s)).of_next ht
  | matcherTake => exact ((Work.tame (tame_matcherStep s)).issueAfter fun h => h.matcherStep.head).of_next ht
  | drainStep source =>
    exact ((Work.tame (tame_placeDirect _ s)).issueAfter fun h => (h.placeDirect (.drain source)).head).of_next ht
  | transmitStep =>
    exact (Ends.ite (fun _ => (Work.tame (tame_transmit s)).issueAfter fun h => h.transmit.head)
      (ends_self s)).of_next ht
  | halt => exact (htame (tame_takeHalt s)).of_next ht
  | prescaledStep => exact (Ends.ite (fun _ => ends_prescaledStep s) (ends_self s)).of_next ht
  | swapBanks => exact absurd rfl (hrow .swapBanks)
  | copyActiveToStaging => exact absurd rfl (hrow .copyActiveToStaging)
  | quiesce => exact absurd rfl (hrow .quiesce)
  | resume => exact absurd rfl (hrow .resume)
  | flushSource => exact absurd rfl (hrow .flushSource)
  | softReset => exact absurd rfl (hrow .softReset)
  | alertAck => exact absurd rfl (hrow .alertAck)
  | popRecord => exact absurd rfl (hrow .popRecord)
  | clearRecords => exact absurd rfl (hrow .clearRecords)
  | clearStatus => exact absurd rfl (hrow .clearStatus)
  | sourceConfigurationWrite => exact absurd rfl (hrow .sourceConfiguration)
  | stagingWindowWrite => exact absurd rfl (hrow .stagingWindow)
  | timeoutClassWrite => exact absurd rfl (hrow .timeoutClass)
  | quarantineLimitWrite => exact absurd rfl (hrow .quarantineLimit)
  | tickPeriodWrite => exact absurd rfl (hrow .tickPeriod)
  | tickRunWrite => exact absurd rfl (hrow .tickRun)
  | errorMaskWrite => exact absurd rfl (hrow .errorMask)
  | errorSeverityWrite => exact absurd rfl (hrow .errorSeverity)
  | errorControlWrite => exact absurd rfl (hrow .errorControl)
  | alertConfigurationWrite => exact absurd rfl (hrow .alertConfiguration)
  | farSourceIdWrite => exact absurd rfl (hrow .farSource)
  | managementWrite => exact absurd rfl (hrow .other)

theorem Ends.legal (e : Ends s t) (hs : Steady s) (h : Legal s) : Legal t := by
  rcases e with w | ⟨u, w, hh, rfl⟩
  · exact w.legal h
  · exact (w.legal h).issueNow (hh hs)

/-! ### The taking step of a row (R170 to R175) -/

/-- How a row handles a request that passed the checks. -/
def MgmtRow.handle : MgmtRow → Request → State → State × Answer
  | .swapBanks => commandWith fun _ s => some (swapRoles s)
  | .copyActiveToStaging => commandWith fun _ s => some (copyBank s)
  | .quiesce => commandWith fun _ s => quiesceEffect s
  | .resume => commandWith fun _ s => resumeEffect s
  | .flushSource => commandWith flushEffect
  | .softReset => commandWith fun _ s => some (Machine.softReset s)
  | .alertAck => commandWith alertAckEffect
  | .popRecord => commandWith fun _ s => popRecordEffect s
  | .clearRecords => commandWith fun _ s => some (clearRecordsEffect s)
  | .clearStatus => commandWith clearStatusEffect
  | .sourceConfiguration => writeWith writeSourceConfig
  | .stagingWindow => writeWith writeStaging
  | .timeoutClass => writeWith writeTimeoutClass
  | .quarantineLimit => writeWith writeQuarantineLimit
  | .tickPeriod => writeWith writeTickPeriod
  | .tickRun => writeWith writeTickRun
  | .errorMask => writeWith writeErrorMask
  | .errorSeverity => writeWith writeErrorSeverity
  | .errorControl => writeWith writeErrorControl
  | .alertConfiguration => writeWith writeAlertConfig
  | .farSource => writeWith writeFarSource
  | .other => handleOther

theorem exec_command (row : MgmtRow) (s : State) : exec row.command s = .next (takeRequest row row.handle s) := by
  cases row <;> rfl

/-- A claim that no refusal, no answer and no return of the request's credit breaks. -/
structure Answerable (P : State → Prop) : Prop where
  report : ∀ u id, P u → P (report .mgmtRefused none id u)
  shown : ∀ u r b, P u → P (showCommand r b u)
  answer : ∀ u r a, P u → P (placeManagementAnswer r a u)
  finish : ∀ u, P u → P (finishRequest u)

section

variable {P : State → Prop} (hP : Answerable P) (hs : P s)

include hP hs

theorem Answerable.commandWith {effect : BitVec 8 → State → Option State} (he : ∀ a u, effect a s = some u → P u)
    (r : Request) : P (commandWith effect r s).1 := by
  unfold Machine.commandWith
  split
  · exact hP.report _ _ hs
  · split
    · next u hu => exact hP.shown _ _ _ (he _ u hu)
    · exact hP.report _ _ (hP.shown _ _ _ hs)

theorem Answerable.commandWith_some {f : State → State} (hf : P (f s)) (r : Request) :
    P (Machine.commandWith (fun _ s => some (f s)) r s).1 :=
  hP.commandWith (effect := fun _ s => some (f s)) hs (fun _ _ hu => Option.some.inj hu ▸ hf) r

theorem Answerable.writeWith {apply : Request → State → Option State} (ha : ∀ r u, apply r s = some u → P u)
    (r : Request) : P (writeWith apply r s).1 := by
  unfold Machine.writeWith
  split
  · exact hP.report _ _ hs
  · split
    · next u hu => exact ha r u hu
    · exact hP.report _ _ hs

theorem Answerable.handleOther (r : Request) : P (handleOther r s).1 := by
  unfold Machine.handleOther
  split
  · exact hs
  · exact hP.commandWith hs (fun _ _ hu => nomatch (show (none : Option State) = some _ from hu)) r
  · exact hP.report _ _ hs

/-- A row's taking step changes nothing, or it carries the oldest request out and ends with an issue. -/
theorem Answerable.takeRequest {row : MgmtRow} {handle : Request → State → State × Answer}
    (hh : ∀ r, P (handle r s).1) :
    takeRequest row handle s = s ∨ ∃ u, P u ∧ takeRequest row handle s = issueAfter s u := by
  unfold Machine.takeRequest
  split
  · exact .inl rfl
  · next r rest hq =>
    split
    · have hout : P (carryOut handle r s).1 := by
        unfold carryOut
        split
        · exact hP.report _ _ hs
        · exact hh r
      exact .inr ⟨_, hP.finish _ (hP.answer _ r _ hout), rfl⟩
    · exact .inl rfl

end

theorem Answerable.and {P Q : State → Prop} (hP : Answerable P) (hQ : Answerable Q) :
    Answerable fun u => P u ∧ Q u where
  report u id h := ⟨hP.report u id h.1, hQ.report u id h.2⟩
  shown u r b h := ⟨hP.shown u r b h.1, hQ.shown u r b h.2⟩
  answer u r a h := ⟨hP.answer u r a h.1, hQ.answer u r a h.2⟩
  finish u h := ⟨hP.finish u h.1, hQ.finish u h.2⟩

theorem tame_placeManagementAnswer (r : Request) (a : Answer) (s : State) : Tame s (placeManagementAnswer r a s) := by
  unfold placeManagementAnswer
  split
  · exact .refl s
  · exact .frame

theorem tame_finishRequest (s : State) : Tame s (finishRequest s) := by
  have htail : Orderly s { s with mgmtQueue := s.mgmtQueue.tail } :=
    { tick := rfl, forward := List.Subset.refl _, management := List.tail_subset _, ingress := List.Subset.refl _,
      tags := fun _ => .stays _ }
  exact (Tame.frame (u := { s with mgmtQueue := s.mgmtQueue.tail }) (ho := htail)).trans (tame_returnRqCredits _ _ _)

/-- A claim that tame operations keep. -/
theorem answerable_of_tame {P : State → Prop} (htame : ∀ {u v}, Tame u v → P u → P v)
    (hshow : ∀ u r b, P u → P (showCommand r b u)) : Answerable P where
  report u _ := htame (tame_report _ _ _ u)
  shown := hshow
  answer u _ _ := htame (tame_placeManagementAnswer _ _ u)
  finish u := htame (tame_finishRequest u)

theorem answerable_legal : Answerable Legal :=
  answerable_of_tame Tame.legal fun _ _ _ h => ⟨{ h.loaded with }, { h.sorted with }, { h.records with }⟩

theorem answerable_headSound : Answerable HeadSound where
  report u id h := h.frame (by simp) (by simp) (by simp) (by simp)
  shown u r b h := h.frame rfl rfl id fun _ => le_rfl
  answer u r a h := by
    unfold placeManagementAnswer
    split
    · exact h
    · exact h.frame rfl rfl id fun _ => le_rfl
  finish u h := h.frame (by simp [finishRequest]) (by simp [finishRequest]) (by simp [finishRequest])
    (by simp [finishRequest])

/-- What each row's handling leaves for the issue at the end of the step. -/
theorem carried_handle (h : Steady s) (row : MgmtRow) (r : Request) : Carried s (row.handle r s).1 := by
  cases row with
  | swapBanks =>
    exact carried_commandWith_some h (f := swapRoles) (h.carried (by constructor <;> simp [swapRoles])) r
  | copyActiveToStaging =>
    exact carried_commandWith_some h (f := copyBank) (h.carried (by constructor <;> simp [copyBank])) r
  | quiesce => exact carried_commandWith h (fun _ _ => carried_quiesce h) r
  | resume => exact carried_commandWith h (fun _ _ => carried_resume h) r
  | flushSource => exact carried_commandWith h (fun a _ => carried_flush h a) r
  | softReset => exact carried_commandWith_some h (f := softReset) (carried_softReset h) r
  | alertAck => exact carried_commandWith h (fun a _ => carried_alertAck h a) r
  | popRecord => exact carried_commandWith h (fun _ _ => carried_popRecord h) r
  | clearRecords =>
    have hc : Carried s (clearRecordsEffect s) :=
      h.carried (by constructor <;> simp [clearRecordsEffect]) (he := Nat.zero_le _)
    exact carried_commandWith_some h hc r
  | clearStatus => exact carried_commandWith h (fun a _ => carried_clearStatus h a) r
  | sourceConfiguration => exact carried_writeWith h (fun r _ => carried_sourceConfig h r) r
  | stagingWindow => exact carried_writeWith h (fun r _ => carried_staging h r) r
  | timeoutClass => exact carried_writeWith h (fun r _ => carried_timeoutClass h r) r
  | quarantineLimit => exact carried_writeWith h (fun r _ => carried_quarantineLimit h r) r
  | tickPeriod => exact carried_writeWith h (fun r _ => carried_tickPeriod h r) r
  | tickRun => exact carried_writeWith h (fun r _ => carried_tickRun h r) r
  | errorMask => exact carried_writeWith h (fun r _ => carried_errorMask h r) r
  | errorSeverity => exact carried_writeWith h (fun r _ => carried_errorSeverity h r) r
  | errorControl => exact carried_writeWith h (fun r _ => carried_errorControl h r) r
  | alertConfiguration => exact carried_writeWith h (fun r _ => carried_alertConfig h r) r
  | farSource => exact carried_writeWith h (fun r _ => carried_farSource h r) r
  | other => exact carried_handleOther h r

end

end Sys2Proof.Machine
end

section
/-! PROOF. The management rows, the device reset and the clock keep `Legal`: the family's statement about every step. -/

namespace Sys2Proof.Machine

open Host (Outcome)

section

variable {s u : State}

/-! ### The commands -/

/-- Both banks replaced by permitted windows (R53). -/
theorem Legal.setBanks (h : Legal s) {b : Vector (Vector Window 16) 2}
    (hb : ∀ k w, WindowFits (getAt (getAt b k) w)) : Legal { s with banks := b } :=
  ⟨{ h.loaded with
      size := fun k w => (hb k w).1
      base := fun k w => (hb k w).2.1
      transBase := fun k w => (hb k w).2.2 }, { h.sorted with }, { h.records with }⟩

theorem Legal.copyBank (h : Legal s) : Legal (copyBank s) := by
  refine h.setBanks fun k w => ?_
  rw [getAt_putAt]
  split
  · exact h.loaded.window _ _
  · exact h.loaded.window _ _

theorem Legal.setOpState (h : Legal s) (o : OpState) : Legal { s with opState := o } :=
  ⟨{ h.loaded with }, { h.sorted with }, { h.records with }⟩

theorem Legal.resumeRun (h : Legal s) : Legal (resumeRun s) :=
  (tame_linkDownClassified _).legal (h.setOpState .run)

theorem legal_quiesce (h : Legal s) (hu : quiesceEffect s = some u) : Legal u := by
  unfold quiesceEffect at hu
  split at hu
  · exact Option.some.inj hu ▸ h.setOpState _
  · exact Option.some.inj hu ▸ h
  · exact Option.some.inj hu ▸ h
  · exact nomatch hu

theorem legal_resume (h : Legal s) (hu : resumeEffect s = some u) : Legal u := by
  unfold resumeEffect at hu
  split at hu
  · exact Option.some.inj hu ▸ h
  · exact Option.some.inj hu ▸ h.resumeRun
  · exact Option.some.inj hu ▸ h.resumeRun
  · split at hu
    · exact nomatch hu
    · exact Option.some.inj hu ▸ h.resumeRun

theorem tame_flush {a : BitVec 8} (hu : flushEffect a s = some u) : Tame s u := by
  unfold flushEffect at hu
  split at hu
  · exact Option.some.inj hu ▸ tame_flushSource _ s
  · exact nomatch hu

theorem tame_emptyForward (s : State) : Tame s { s with forwardQueue := [], headPhase := .new } := .frame

theorem tame_emptyIngress (s : State) : Tame s { s with ingress := [] } := .frame

theorem tame_emptyAnswers (s : State) : Tame s { s with trafficQueue := [], malformedList := [] } := .frame

theorem tame_returnFreed (l : List MalformedAnswer) (s : State) :
    Tame s (l.foldl (fun s a => returnRqCredits a.pool 1 s) s) := by
  refine Tame.foldl (fun u a => ?_) s l
  exact tame_returnRqCredits u a.pool 1

/-- SOFT_RESET is tame but for the operating state it enters (R182). -/
theorem softReset_cases (s : State) :
    ∃ v, Tame s v ∧ Tame { v with opState := .quiesced } (softReset s) := by
  have h1 : Tame s _ := (tame_emptyForward s).trans (tame_returnRqCredits _ .ordinary s.forwardQueue.length)
  have h2 := h1.trans ((tame_terminateAll (fun _ => true) none .free _).trans (tame_freeQuarantined _))
  unfold softReset
  dsimp only
  generalize freeQuarantined (terminateAll (fun _ => true) none .free
    (returnRqCredits .ordinary s.forwardQueue.length { s with forwardQueue := [], headPhase := .new })) = s2 at h2
  have h3 := (h2.trans (tame_setBacklog [] s2)).trans ((tame_clearCounts _).trans (tame_clearLists _))
  generalize clearLists (clearCounts { s2 with backlog := [] }) = s3 at h3
  have h4 := (h3.trans (tame_emptyIngress s3)).trans (tame_returnRsCredits _ s3.ingress.length)
  generalize returnRsCredits s3.ingress.length { s3 with ingress := [] } = s4 at h4
  exact ⟨{ s4 with trafficQueue := [], malformedList := [] }, h4.trans (tame_emptyAnswers s4), tame_returnFreed _ _⟩

theorem Legal.softReset (h : Legal s) : Legal (softReset s) := by
  obtain ⟨v, hv, hsoft⟩ := softReset_cases s
  exact hsoft.legal ((hv.legal h).setOpState .quiesced)

/-- The Error Unit and the Alert Unit change, which the claims do not read. -/
theorem Legal.setUnits (h : Legal s) (e : ErrorUnit) (a : AlertUnit) : Legal { s with err := e, alert := a } :=
  ⟨{ h.loaded with }, { h.sorted with }, { h.records with }⟩

theorem legal_alertAck (h : Legal s) {a : BitVec 8} (hu : alertAckEffect a s = some u) : Legal u := by
  obtain ⟨c, -, rfl⟩ := Option.map_eq_some_iff.mp hu
  exact h.setUnits s.err _

theorem legal_popRecord (h : Legal s) (hu : popRecordEffect s = some u) : Legal u := by
  unfold popRecordEffect at hu
  split at hu
  · exact nomatch hu
  · exact Option.some.inj hu ▸ h.setUnits _ s.alert

theorem legal_clearStatus (h : Legal s) {a : BitVec 8} (hu : clearStatusEffect a s = some u) : Legal u := by
  unfold clearStatusEffect at hu
  split at hu
  · exact Option.some.inj hu ▸ h.setUnits _ s.alert
  · split at hu
    · exact Option.some.inj hu ▸ h.setUnits _ s.alert
    · exact nomatch hu

/-! ### The writes: a table takes only what its rule permits (R48, R55, R61, R62, R107)

As in the earlier files, a rule that reads its request's word is opened before it meets the request, so that the kernel
does not evaluate the word's offset. -/

theorem quota_of_configure {e e' : SourceEntry} {v : Word} (h : e.configure v = some e') : e'.quota.toNat ≤ 16 := by
  unfold SourceEntry.configure at h
  split at h
  · exact nomatch h
  · split at h
    · next hq => exact Option.some.inj h ▸ hq
    · exact nomatch h

theorem Legal.setSource (h : Legal s) (n : SourceId) {e : SourceEntry} (he : e.quota.toNat ≤ 16) :
    Legal { s with sources := putAt s.sources n e } := by
  refine ⟨{ h.loaded with quota := fun m => ?_ }, { h.sorted with }, { h.records with }⟩
  show (getAt (putAt s.sources n e) m).quota.toNat ≤ 16
  rw [getAt_putAt]
  split
  · exact he
  · exact h.loaded.quota m

theorem legal_sourceConfig (h : Legal s) (r : Request) (hu : writeSourceConfig r s = some u) : Legal u := by
  generalize hf : writeSourceConfig = f at hu
  delta writeSourceConfig at hf
  subst hf
  beta_reduce at hu
  generalize r.word = w at hu
  split at hu
  · obtain ⟨e, he, rfl⟩ := Option.map_eq_some_iff.mp hu
    exact h.setSource _ (quota_of_configure he)
  · exact nomatch hu

theorem sizeFits_of_withWord {w w' : Window} {k : Fin 4} {v : Word} (hw : WindowFits w)
    (h : w.withWord k v = some w') : 12 ≤ w'.sizeExp.toNat ∧ w'.sizeExp.toNat ≤ 40 := by
  have hsize : (v.extractLsb' 0 6).toNat = v.toNat % 64 := by simp
  rcases withWord_eq_some_iff.mp h with ⟨-, a, -, rfl⟩ | ⟨-, hlow, hhigh, rfl⟩ | ⟨-, rfl⟩ | ⟨-, rfl⟩
  · exact hw.1
  · exact ⟨hsize ▸ hlow, hsize ▸ hhigh⟩
  · exact hw.1
  · exact hw.1

theorem legal_staging (h : Legal s) (r : Request) (hu : writeStaging r s = some u) : Legal u := by
  generalize hf : writeStaging = f at hu
  delta writeStaging at hf
  subst hf
  beta_reduce at hu
  generalize r.word = w at hu
  split at hu
  · next i k =>
    dsimp only at hu
    split at hu
    · next w' hw =>
      split at hu
      · next ha =>
        obtain rfl := Option.some.inj hu
        refine h.setBanks fun b j => ?_
        rw [getAt_putAt]
        split
        · rw [getAt_putAt]
          split
          · exact ⟨sizeFits_of_withWord (h.loaded.window _ _) hw, (aligned_iff w').mp ha⟩
          · exact h.loaded.window _ _
        · exact h.loaded.window _ _
      · exact nomatch hu
    · exact nomatch hu
  · exact nomatch hu

theorem Legal.setTimeout (h : Legal s) (c : Fin 4) {l : BitVec 12} (hl : l ≠ 0#12) :
    Legal { s with timeoutLimits := putAt s.timeoutLimits c l } := by
  refine ⟨{ h.loaded with timeout := fun d => ?_ }, { h.sorted with }, { h.records with }⟩
  show getAt (putAt s.timeoutLimits c l) d ≠ 0#12
  rw [getAt_putAt]
  split
  · exact hl
  · exact h.loaded.timeout d

theorem legal_timeoutClass (h : Legal s) (r : Request) (hu : writeTimeoutClass r s = some u) : Legal u := by
  generalize hf : writeTimeoutClass = f at hu
  delta writeTimeoutClass at hf
  subst hf
  beta_reduce at hu
  generalize r.word = w at hu
  split at hu
  · split at hu
    · exact nomatch hu
    · next hl => exact Option.some.inj hu ▸ h.setTimeout _ hl
  · exact nomatch hu

theorem legal_quarantineLimit (h : Legal s) (r : Request) (hu : writeQuarantineLimit r s = some u) : Legal u := by
  unfold writeQuarantineLimit at hu
  split at hu
  · exact nomatch hu
  · next hl =>
    obtain rfl := Option.some.inj hu
    exact ⟨{ h.loaded with quarantine := hl }, { h.sorted with }, { h.records with }⟩

theorem legal_tickPeriod (h : Legal s) (r : Request) (hu : writeTickPeriod r s = some u) : Legal u := by
  unfold writeTickPeriod at hu
  dsimp only at hu
  split at hu
  · exact nomatch hu
  · next hl =>
    obtain rfl := Option.some.inj hu
    exact h.setTick rfl { h.loaded with pendingReload := fun p hp => Option.some.inj hp ▸ hl }

theorem legal_tickRun (h : Legal s) (r : Request) (hu : writeTickRun r s = some u) : Legal u := by
  obtain rfl := Option.some.inj hu
  exact h.setTick rfl { h.loaded with }

theorem legal_errorMask (h : Legal s) (r : Request) (hu : writeErrorMask r s = some u) : Legal u :=
  Option.some.inj hu ▸ h.setUnits _ s.alert

theorem legal_errorSeverity (h : Legal s) (r : Request) (hu : writeErrorSeverity r s = some u) : Legal u := by
  obtain ⟨e, rfl, -⟩ := writeErrorSeverity_some hu
  exact h.setUnits e s.alert

theorem legal_errorControl (h : Legal s) (r : Request) (hu : writeErrorControl r s = some u) : Legal u :=
  Option.some.inj hu ▸ h.setUnits _ s.alert

theorem legal_alertConfig (h : Legal s) (r : Request) (hu : writeAlertConfig r s = some u) : Legal u :=
  Option.some.inj hu ▸ h.setUnits s.err _

theorem legal_farSource (h : Legal s) (r : Request) (hu : writeFarSource r s = some u) : Legal u := by
  unfold writeFarSource at hu
  split at hu
  · obtain rfl := Option.some.inj hu
    exact ⟨{ h.loaded with }, { h.sorted with }, { h.records with }⟩
  · exact nomatch hu

theorem legal_handle (h : Legal s) (row : MgmtRow) (r : Request) : Legal (row.handle r s).1 := by
  have hcommand {effect : BitVec 8 → State → Option State} (he : ∀ {a u}, effect a s = some u → Legal u) :
      Legal (commandWith effect r s).1 := answerable_legal.commandWith h (fun _ _ => he) r
  have hwrite {apply : Request → State → Option State} (ha : ∀ r u, apply r s = some u → Legal u) :
      Legal (writeWith apply r s).1 := answerable_legal.writeWith h ha r
  cases row with
  | swapBanks =>
    exact answerable_legal.commandWith_some (f := swapRoles) h
      ⟨{ h.loaded with }, { h.sorted with }, { h.records with }⟩ r
  | copyActiveToStaging => exact answerable_legal.commandWith_some (f := copyBank) h h.copyBank r
  | quiesce => exact hcommand fun hu => legal_quiesce h hu
  | resume => exact hcommand fun hu => legal_resume h hu
  | flushSource => exact hcommand fun hu => (tame_flush hu).legal h
  | softReset => exact answerable_legal.commandWith_some (f := softReset) h h.softReset r
  | alertAck => exact hcommand fun hu => legal_alertAck h hu
  | popRecord => exact hcommand fun hu => legal_popRecord h hu
  | clearRecords => exact answerable_legal.commandWith_some (f := clearRecordsEffect) h (h.setUnits _ s.alert) r
  | clearStatus => exact hcommand fun hu => legal_clearStatus h hu
  | sourceConfiguration => exact hwrite (apply := writeSourceConfig) fun r _ => legal_sourceConfig h r
  | stagingWindow => exact hwrite (apply := writeStaging) fun r _ => legal_staging h r
  | timeoutClass => exact hwrite (apply := writeTimeoutClass) fun r _ => legal_timeoutClass h r
  | quarantineLimit => exact hwrite fun r _ => legal_quarantineLimit h r
  | tickPeriod => exact hwrite fun r _ => legal_tickPeriod h r
  | tickRun => exact hwrite fun r _ => legal_tickRun h r
  | errorMask => exact hwrite fun r _ => legal_errorMask h r
  | errorSeverity => exact hwrite (apply := writeErrorSeverity) fun r _ => legal_errorSeverity h r
  | errorControl => exact hwrite fun r _ => legal_errorControl h r
  | alertConfiguration => exact hwrite fun r _ => legal_alertConfig h r
  | farSource => exact hwrite fun r _ => legal_farSource h r
  | other => exact answerable_legal.handleOther h r

theorem Legal.issueAfter (h : Legal u) (hh : HeadSound u) (before : State) : Legal (issueAfter before u) := by
  unfold Machine.issueAfter
  split
  · exact h.issueNow hh
  · exact h

theorem Legal.takeRequest (h : Legal s) (hs : Steady s) (row : MgmtRow) : Legal (takeRequest row row.handle s) := by
  rcases (answerable_headSound.and answerable_legal).takeRequest (row := row) ⟨hs.head, h⟩
    (fun r => ⟨(carried_handle hs row r).1.head, legal_handle h row r⟩) with he | ⟨u, ⟨hh, hl⟩, he⟩
  · rw [he]
    exact h
  · rw [he]
    exact hl.issueAfter hh s

/-! ### Device reset and the clock -/

theorem legal_deviceReset (n : SourceId) (s : State) : Legal (deviceReset n s) := by
  have hw : ∀ b w, getAt (getAt (deviceReset n s).banks b) w = Window.unset := fun b w => by
    show getAt (getAt (fillTable 2 (fillTable 16 Window.unset)) b) w = _
    rw [getAt_fillTable, getAt_fillTable]
  have ht := getAt_tags_deviceReset n s
  refine ⟨{ quota := fun m => ?_, size := fun b w => ?_, base := fun b w => ?_, transBase := fun b w => ?_,
            timeout := ?_, quarantine := ?_, reload := ?_, pendingReload := nofun, division := ?_ },
    ⟨nofun, nofun, nofun, nofun⟩, (recordsSound_iff _).mpr fun t => ?_⟩
  · show (getAt (putAt (fillTable 32 SourceEntry.unset) n SourceEntry.bootstrap) m).quota.toNat ≤ 16
    rw [getAt_putAt, getAt_fillTable]
    split <;> decide
  · rw [hw]
    decide
  · rw [hw]
    decide
  · rw [hw]
    decide
  · show ∀ c, getAt #v[10#12, 50#12, 200#12, 1000#12] c ≠ 0#12
    decide
  · show 20#12 ≠ 0#12
    decide
  · show TickGen.atReset.reload ≠ 0#16
    decide
  · show TickGen.atReset.division < TickGen.atReset.prescale.divisor
    decide
  · rw [ht]
    exact ⟨nofun, nofun, nofun⟩

/-- A core clock period: the prescaler divides, or the division ends with a prescaled step (R106, R108). -/
theorem Legal.clockPeriod (h : Legal s) (hs : Steady s) : Legal (clockPeriod s) := by
  unfold Machine.clockPeriod
  split
  · exact h
  · split
    · next hd => exact h.setTick rfl { h.loaded with division := hd }
    · have hl : Legal { s with tick := { s.tick with division := 0 } } :=
        h.setTick rfl { h.loaded with division := Prescale.divisor_pos _ }
      have hs' : Steady { s with tick := { s.tick with division := 0 } } := hs.frame
      exact hl.prescaledStep.issueAfter hs'.prescaledStep.head s

theorem legal_exec (hs : Steady s) (h : Legal s) (i : Instr) (ht : exec i s = .next u) : Legal u := by
  by_cases hrow : ∃ row : MgmtRow, i = row.command
  · obtain ⟨row, rfl⟩ := hrow
    rw [exec_command] at ht
    exact Outcome.next.inj ht ▸ h.takeRequest hs row
  · by_cases hreset : ∃ n, i = .deviceReset n
    · obtain ⟨n, rfl⟩ := hreset
      have he : deviceReset n s = u := Outcome.next.inj ht
      exact he ▸ legal_deviceReset n s
    · exact (ends_exec (fun row hr => hrow ⟨row, hr⟩) (fun n hn => hreset ⟨n, hn⟩) ht).legal hs h

/-- A step taken where the invariant holds: a command of the queue, or a core clock period. -/
theorem Inv.step_legal (h : Inv s) (ht : step s = .next u) : Legal u := by
  unfold step at ht
  split at ht
  · exact Outcome.next.inj ht ▸ (h.legal rfl).clockPeriod (h.steady rfl)
  · refine legal_exec ?_ ?_ _ ht
    · exact h.steady rfl
    · exact h.legal rfl

end

/-- Settles O56: a command other than issue moves entries on and takes in only what a check admits, a write is accepted
only where its rule permits the value, and a tick event ends what it finds due. -/
theorem stepKeepsTablesAndRecordsLegal : Obligations.StepKeepsTablesAndRecordsLegal := fun _ _ h ht =>
  have hl := h.step_legal ht
  ⟨hl.loaded, hl.sorted, hl.records⟩

end Sys2Proof.Machine
end

section
/-! PROOF. What only its own commands change: a command that is no management row is confined to what it may change,
and so is each row. -/

namespace Sys2Proof.Machine

open Host (Outcome)

section

variable {s u v t : State}

/-! ### Commands that are no rows -/

/-- `u` keeps the settings, the set error statuses and HALTED of `s`, and in HALTED no request has been sent. -/
structure Confined (s u : State) : Prop extends SameSettings s u where
  status : ∀ k, (s.err.item k).status = true → (u.err.item k).status = true
  halted : s.opState = .halted → u.opState = .halted
  packets : s.opState = .halted → packetsOn u.rsWire = packetsOn s.rsWire

theorem Confined.trans (h : Confined s u) (k : Confined u v) : Confined s v where
  toSameSettings := h.toSameSettings.trans k.toSameSettings
  status e he := k.status e (h.status e he)
  halted ho := k.halted (h.halted ho)
  packets ho := (k.packets (h.halted ho)).trans (h.packets ho)

theorem Tame.confined (h : Tame s u) : Confined s u := ⟨h.toSameSettings, h.status, h.halted, fun _ => h.packets⟩

/-- An operation that leaves all of this alone. Where the laws of its updates show that, `simp` fills in the frame. -/
theorem Confined.frame (hs : SameSettings s u := by constructor <;> simp) (he : u.err = s.err := by simp)
    (ho : u.opState = s.opState := by simp) (hw : u.rsWire = s.rsWire := by simp) : Confined s u :=
  ⟨hs, fun k => by rw [he]; exact id, fun hh => ho.trans hh, fun _ => by rw [hw]⟩

/-- The Tick Generator moves and the run flag stays. -/
theorem confined_setTick (s : State) {g : TickGen} (hg : g.run = s.tick.run) : Confined s { s with tick := g } :=
  .frame (hs := by constructor <;> simp [hg])

theorem confined_tickEvent (s : State) : Confined s (tickEvent s) := by
  have htick : Confined s { s with tick := s.tick.underflow } := confined_setTick s rfl
  have hwork := htick.trans (Tame.expireAndLapse _).confined
  unfold tickEvent
  exact hwork.trans (tame_distribute s _).confined

theorem confined_prescaledStep (s : State) : Confined s (prescaledStep s) := by
  unfold prescaledStep
  split
  · exact confined_tickEvent s
  · exact confined_setTick s rfl

theorem Work.confined (w : Work s u) : Confined s u := by
  cases w with
  | tame h => exact h.confined
  | prescaled => exact confined_prescaledStep s
  | ordinary r m h ha => exact .frame
  | management r h ha => exact .frame
  | response p h => exact .frame

/-! ### Issue -/

theorem sameSettings_setTag (t : PoolTag) (x : TagState) (s : State) : SameSettings s (setTag t x s) := by
  constructor <;> simp

theorem sameSettings_sendRequest (q : Request) (c : Classified) (tag : BitVec 8) (s : State) :
    SameSettings s (sendRequest q c tag s) := by
  constructor <;> simp

theorem sameSettings_issueWith (q : Request) (c : Classified) (s : State) (g : Grant) :
    SameSettings s (issueWith q c s g) := by
  have hsent : ∀ (tag : BitVec 8) u, SameSettings u (removeHead (sendRequest q c tag u)) := fun tag u =>
    (sameSettings_sendRequest q c tag u).trans (tame_removeHead _).toSameSettings
  cases g with
  | plain => exact hsent _ s
  | tag t => exact ((sameSettings_setTag t _ s).trans (tame_countIssue q c _).toSameSettings).trans (hsent _ _)
  | tagAndSlot t l =>
    exact (((sameSettings_setTag t _ s).trans (tame_appendElement _ l _ _).toSameSettings).trans
      (tame_countIssue q c _).toSameSettings).trans (hsent _ _)

/-- A head is issued in RUN alone (R37). -/
theorem confined_issueNow (s : State) : Confined s (issueNow s) := by
  unfold issueNow
  split
  · next q c g hi =>
    obtain ⟨-, -, -, -, -, hrun, -⟩ := issuable_eq_some_iff.mp hi
    have hn : ∀ {p : Prop}, s.opState = .halted → p := fun hh => nomatch hrun.symm.trans hh
    exact ⟨sameSettings_issueWith q c s g, by simp, hn, hn⟩
  · exact (Tame.refl s).confined

theorem Ends.confined (e : Ends s t) : Confined s t := by
  rcases e with w | ⟨u, w, -, rfl⟩
  · exact w.confined
  · exact w.confined.trans (confined_issueNow u)

theorem confined_issueAfter (before u : State) : Confined u (issueAfter before u) := by
  unfold issueAfter
  split
  · exact confined_issueNow u
  · exact (Tame.refl u).confined

/-- In HALTED no head is CLASSIFIED, so none waits for a step to set it free (R43). -/
theorem issueAfter_of_halted (hh : HeadSound s) (ho : s.opState = .halted) (u : State) : issueAfter s u = u := by
  have hc : s.headClassified = false := by
    unfold State.headClassified
    split
    · next c hp =>
      cases hq : s.forwardQueue with
      | nil => rfl
      | cons w rest => exact absurd ho (hh.unmarked w rest c hq hp).2
    · rfl
  simp [issueAfter, hc]

/-! ### The rows of the Management Agent -/

/-- The ACTIVE bank is the same, and so are its contents (R52). -/
def SameActiveBank (s u : State) : Prop :=
  u.activeBank = s.activeBank ∧ getAt u.banks u.activeBank = getAt s.banks s.activeBank

theorem SameActiveBank.trans (h : SameActiveBank s u) (k : SameActiveBank u v) : SameActiveBank s v :=
  ⟨k.1.trans h.1, k.2.trans h.2⟩

theorem SameSettings.activeBank (h : SameSettings s u) : SameActiveBank s u := by
  obtain ⟨hb, ha, -⟩ := h.banks
  exact ⟨ha, by rw [hb, ha]⟩

/-- What a row's handling keeps: the ACTIVE bank but for SWAP_BANKS, HALTED but for RESUME and SOFT_RESET, and what the
RS port has sent. -/
structure RowKeeps (row : MgmtRow) (s u : State) : Prop where
  bank : row ≠ .swapBanks → SameActiveBank s u
  halted : row ≠ .resume → row ≠ .softReset → s.opState = .halted → u.opState = .halted
  packets : packetsOn u.rsWire = packetsOn s.rsWire

section

variable {row : MgmtRow}

theorem RowKeeps.tame (h : RowKeeps row s u) (k : Tame u v) : RowKeeps row s v where
  bank hr := (h.bank hr).trans k.toSameSettings.activeBank
  halted hr hr' ho := k.halted (h.halted hr hr' ho)
  packets := k.packets.trans h.packets

/-- A row that sets nothing of this. -/
theorem RowKeeps.frame (hb : u.banks = s.banks ∧ u.activeBank = s.activeBank := by exact ⟨rfl, rfl⟩)
    (ho : u.opState = s.opState := by rfl) (hw : u.rsWire = s.rsWire := by rfl) : RowKeeps row s u where
  bank _ := ⟨hb.2, by rw [hb.1, hb.2]⟩
  halted _ _ hh := ho.trans hh
  packets := by rw [hw]

theorem RowKeeps.refl (row : MgmtRow) (s : State) : RowKeeps row s s := .frame

theorem answerable_rowKeeps (row : MgmtRow) (s : State) : Answerable (RowKeeps row s) :=
  answerable_of_tame (fun ht h => h.tame ht) fun _ _ _ h => ⟨h.bank, h.halted, h.packets⟩

theorem stagingBank_ne_activeBank (s : State) : s.stagingBank ≠ s.activeBank := by
  have h : ∀ b : Fin 2, 1 - b ≠ b := by decide
  exact h s.activeBank

/-- A bank change outside the ACTIVE bank. -/
theorem rowKeeps_setStaging (s : State) (b : Vector Window 16) :
    RowKeeps row s { s with banks := putAt s.banks s.stagingBank b } where
  bank _ := ⟨rfl, by
    show getAt (putAt s.banks s.stagingBank b) s.activeBank = _
    rw [getAt_putAt, if_neg (stagingBank_ne_activeBank s)]⟩
  halted _ _ := id
  packets := rfl

theorem rowKeeps_staging {r : Request} (hu : writeStaging r s = some u) : RowKeeps row s u := by
  generalize hf : writeStaging = f at hu
  delta writeStaging at hf
  subst hf
  beta_reduce at hu
  generalize r.word = w at hu
  split at hu
  · dsimp only at hu
    split at hu
    · split at hu
      · exact Option.some.inj hu ▸ rowKeeps_setStaging s _
      · exact nomatch hu
    · exact nomatch hu
  · exact nomatch hu

theorem rowKeeps_quiesce (hu : quiesceEffect s = some u) : RowKeeps row s u := by
  unfold quiesceEffect at hu
  split at hu
  · next hrun =>
    obtain rfl := Option.some.inj hu
    exact ⟨fun _ => ⟨rfl, rfl⟩, fun _ _ hh => (nomatch hrun.symm.trans hh), rfl⟩
  · exact Option.some.inj hu ▸ .refl row s
  · exact Option.some.inj hu ▸ .refl row s
  · exact nomatch hu

theorem rowKeeps_resumeRun (s : State) : RowKeeps .resume s (resumeRun s) :=
  RowKeeps.tame (u := { s with opState := .run }) ⟨fun _ => ⟨rfl, rfl⟩, fun hn => absurd rfl hn, rfl⟩
    (tame_linkDownClassified _)

theorem rowKeeps_resume (hu : resumeEffect s = some u) : RowKeeps .resume s u := by
  unfold resumeEffect at hu
  split at hu
  · exact Option.some.inj hu ▸ .refl _ s
  · exact Option.some.inj hu ▸ rowKeeps_resumeRun s
  · exact Option.some.inj hu ▸ rowKeeps_resumeRun s
  · split at hu
    · exact nomatch hu
    · exact Option.some.inj hu ▸ rowKeeps_resumeRun s

theorem rowKeeps_softReset (s : State) : RowKeeps .softReset s (softReset s) := by
  obtain ⟨v, hv, hsoft⟩ := softReset_cases s
  have h : RowKeeps .softReset s { v with opState := .quiesced } :=
    ⟨fun _ => hv.toSameSettings.activeBank, fun _ hn => absurd rfl hn, hv.packets⟩
  exact h.tame hsoft

theorem rowKeeps_popRecord (hu : popRecordEffect s = some u) : RowKeeps row s u := by
  unfold popRecordEffect at hu
  split at hu
  · exact nomatch hu
  · exact Option.some.inj hu ▸ .frame

theorem rowKeeps_clearStatus {a : BitVec 8} (hu : clearStatusEffect a s = some u) : RowKeeps row s u := by
  unfold clearStatusEffect at hu
  split at hu
  · exact Option.some.inj hu ▸ .frame
  · split at hu
    · exact Option.some.inj hu ▸ .frame
    · exact nomatch hu

theorem rowKeeps_quarantineLimit {r : Request} (hu : writeQuarantineLimit r s = some u) : RowKeeps row s u := by
  unfold writeQuarantineLimit at hu
  split at hu
  · exact nomatch hu
  · exact Option.some.inj hu ▸ .frame

theorem rowKeeps_tickPeriod {r : Request} (hu : writeTickPeriod r s = some u) : RowKeeps row s u := by
  unfold writeTickPeriod at hu
  dsimp only at hu
  split at hu
  · exact nomatch hu
  · exact Option.some.inj hu ▸ .frame

theorem rowKeeps_farSource {r : Request} (hu : writeFarSource r s = some u) : RowKeeps row s u := by
  unfold writeFarSource at hu
  split at hu
  · exact Option.some.inj hu ▸ .frame
  · exact nomatch hu

end

theorem rowKeeps_handle (row : MgmtRow) (r : Request) (s : State) : RowKeeps row s (row.handle r s).1 := by
  have hs := RowKeeps.refl row s
  have hP := answerable_rowKeeps row s
  cases row with
  | swapBanks =>
    exact hP.commandWith_some (f := swapRoles) hs ⟨fun hn => absurd rfl hn, fun _ _ => id, rfl⟩ r
  | copyActiveToStaging => exact hP.commandWith_some (f := copyBank) hs (rowKeeps_setStaging s _) r
  | quiesce => exact hP.commandWith hs (fun _ _ hu => rowKeeps_quiesce hu) r
  | resume => exact hP.commandWith hs (fun _ _ hu => rowKeeps_resume hu) r
  | flushSource => exact hP.commandWith hs (fun _ _ hu => hs.tame (tame_flush hu)) r
  | softReset => exact hP.commandWith_some (f := softReset) hs (rowKeeps_softReset s) r
  | alertAck =>
    refine hP.commandWith hs (fun _ _ hu => ?_) r
    obtain ⟨c, -, rfl⟩ := Option.map_eq_some_iff.mp hu
    exact .frame
  | popRecord => exact hP.commandWith hs (fun _ _ hu => rowKeeps_popRecord hu) r
  | clearRecords => exact hP.commandWith_some (f := clearRecordsEffect) hs .frame r
  | clearStatus => exact hP.commandWith hs (fun _ _ hu => rowKeeps_clearStatus hu) r
  | sourceConfiguration =>
    refine hP.writeWith (apply := writeSourceConfig) hs (fun _ _ hu => ?_) r
    obtain ⟨n, e, rfl, -⟩ := writeSourceConfig_some hu
    exact .frame
  | stagingWindow => exact hP.writeWith (apply := writeStaging) hs (fun _ _ hu => rowKeeps_staging hu) r
  | timeoutClass =>
    refine hP.writeWith (apply := writeTimeoutClass) hs (fun _ _ hu => ?_) r
    obtain ⟨l, rfl⟩ := writeTimeoutClass_some hu
    exact .frame
  | quarantineLimit => exact hP.writeWith hs (fun _ _ hu => rowKeeps_quarantineLimit hu) r
  | tickPeriod => exact hP.writeWith hs (fun _ _ hu => rowKeeps_tickPeriod hu) r
  | tickRun => exact hP.writeWith (apply := writeTickRun) hs (fun _ _ hu => Option.some.inj hu ▸ .frame) r
  | errorMask => exact hP.writeWith (apply := writeErrorMask) hs (fun _ _ hu => Option.some.inj hu ▸ .frame) r
  | errorSeverity =>
    refine hP.writeWith (apply := writeErrorSeverity) hs (fun _ _ hu => ?_) r
    obtain ⟨e, rfl, -⟩ := writeErrorSeverity_some hu
    exact .frame
  | errorControl => exact hP.writeWith (apply := writeErrorControl) hs (fun _ _ hu => Option.some.inj hu ▸ .frame) r
  | alertConfiguration =>
    exact hP.writeWith (apply := writeAlertConfig) hs (fun _ _ hu => Option.some.inj hu ▸ .frame) r
  | farSource => exact hP.writeWith hs (fun _ _ hu => rowKeeps_farSource hu) r
  | other => exact hP.handleOther hs r

/-- The taking step of a row. A head that it sets free is issued in RUN alone. -/
theorem takeRequest_keeps (row : MgmtRow) (s : State) :
    (row ≠ .swapBanks → SameActiveBank s (takeRequest row row.handle s)) ∧
      (row ≠ .resume → row ≠ .softReset → s.opState = .halted →
        (takeRequest row row.handle s).opState = .halted) ∧
      (HeadSound s → s.opState = .halted →
        packetsOn (takeRequest row row.handle s).rsWire = packetsOn s.rsWire) := by
  rcases (answerable_rowKeeps row s).takeRequest (RowKeeps.refl row s) (fun r => rowKeeps_handle row r s) with
    he | ⟨u, hu, he⟩
  · rw [he]
    exact ⟨fun _ => ⟨rfl, rfl⟩, fun _ _ => id, fun _ _ => rfl⟩
  · rw [he]
    have hissue := confined_issueAfter s u
    refine ⟨fun hr => (hu.bank hr).trans hissue.toSameSettings.activeBank,
      fun hr hr' ho => hissue.halted (hu.halted hr hr' ho), fun hh ho => ?_⟩
    rw [issueAfter_of_halted hh ho]
    exact hu.packets

end

/-- Settles O59: a command that is no row is confined, and a row keeps what is not its own. -/
theorem whatOnlyItsCommandsChange : Obligations.WhatOnlyItsCommandsChange := by
  intro c s t ht hreset
  by_cases hrow : ∃ row : MgmtRow, c = row.command
  · obtain ⟨row, rfl⟩ := hrow
    rw [exec_command] at ht
    obtain rfl := Outcome.next.inj ht
    obtain ⟨hbank, hhalted, hpackets⟩ := takeRequest_keeps row s
    exact ⟨fun hn => hbank fun hr => hn (hr ▸ rfl),
      fun hn hn' => hhalted (fun hr => hn (hr ▸ rfl)) fun hr => hn' (hr ▸ rfl), hpackets,
      fun hn => absurd rfl (hn row)⟩
  · have h := (ends_exec (fun row hr => hrow ⟨row, hr⟩) hreset ht).confined
    exact ⟨fun _ => h.toSameSettings.activeBank, fun _ _ => h.halted, fun _ => h.packets,
      fun _ => ⟨h.toSameSettings, h.status⟩⟩

end Sys2Proof.Machine
end

section
/-! PROOF. The Response Matcher's step in the words of the statements: the packet taken, the packet handled by the state
of its tag, and when the room distribution and the issue at the step's end find nothing to do. -/

namespace Sys2Proof.Machine

section

variable {p : Arrived} {rest : List Arrived} {g : PoolTag} {r : ActiveRec} {l : SlotId} {e : Element} {s u v : State}

/-! ### The shared operations -/

theorem returnRsCredits_taken (rest : List Arrived) (s : State) :
    returnRsCredits 1 { s with ingress := rest } = takenPacket rest s := by
  have hbyte : indicationByte .ret = 0x8F#8 := by decide
  unfold returnRsCredits takenPacket State.rsSent
  rw [hbyte]
  split <;> rfl

theorem leaveActive_eq_withdrawn (g : PoolTag) (x : TagState) (s : State) : leaveActive g x s = withdrawn g x s :=
  leaveActive_eq g x s

theorem endForwarded_eq_released (r : ActiveRec) (s : State) : endForwarded r s = released r.source r.link s := by
  unfold endForwarded released
  cases r.link with
  | none => rfl
  | some l => rfl

theorem mapLinked_eq_withElement (hl : r.link = some l) (he : getAt s.slots l = some e) (f : Element → Element) :
    mapLinked r f s = withElement l (f e) s := by
  simp only [mapLinked, hl]
  exact mapElement_of_some he f

theorem activeIdent_eq (r : ActiveRec) (g : PoolTag) : r.ident g = entryIdent r.source r.tag r.kind g := by
  simp only [ActiveRec.ident, entryIdent]
  cases r.kind <;> rfl

theorem quarIdent_eq (q : QuarRec) (g : PoolTag) : q.ident g = entryIdent q.source q.tag q.kind g := by
  simp only [QuarRec.ident, entryIdent]
  cases q.kind <;> rfl

/-! ### Taking a packet and reporting errors -/

/-- The blocks that the Matcher, the ring and Dispatch read stand in `u` as in `s`. -/
structure Noted (s u : State) : Prop where
  opState : u.opState = s.opState
  tick : u.tick = s.tick
  quarantineLimit : u.quarantineLimit = s.quarantineLimit
  tags : u.tags = s.tags
  slots : u.slots = s.slots
  lists : u.lists = s.lists
  backlog : u.backlog = s.backlog
  trafficQueue : u.trafficQueue = s.trafficQueue
  malformedList : u.malformedList = s.malformedList
  forwardQueue : u.forwardQueue = s.forwardQueue
  headPhase : u.headPhase = s.headPhase
  roomPointer : u.roomPointer = s.roomPointer
  rqLink : u.rqLink = s.rqLink
  rsLink : u.rsLink = s.rsLink
  rsCredits : u.rsCredits = s.rsCredits

theorem noted_takenPacket (rest : List Arrived) (s : State) : Noted s (takenPacket rest s) := by
  constructor <;> rfl

theorem Noted.report (h : Noted s u) (k : ErrorKind) (port : Option PortId) (id : Ident) :
    Noted s (report k port id u) := by
  constructor <;> simp [h.opState, h.tick, h.quarantineLimit, h.tags, h.slots, h.lists, h.backlog, h.trafficQueue,
    h.malformedList, h.forwardQueue, h.headPhase, h.roomPointer, h.rqLink, h.rsLink, h.rsCredits]

theorem Noted.ite {c : Prop} [Decidable c] (hu : Noted s u) (hv : Noted s v) : Noted s (if c then u else v) := by
  split
  · exact hu
  · exact hv

theorem Noted.forwards (h : Noted s u) (r : ActiveRec) : u.forwards r = true ↔ Forwarded s r := by
  rw [forwards_iff, Forwarded, Forwarded, h.slots, h.lists]

/-- Nothing that a head waits for has changed. -/
theorem Noted.issueAfter_eq (h : Noted s u) : issueAfter s u = u :=
  Machine.issueAfter_eq h.forwardQueue h.headPhase h.opState h.rsLink h.rsCredits h.backlog h.tags h.slots

/-! ### The issue at the step's end (R37) -/

/-- `u` holds no resource for a waiting head that `s` did not hold. -/
structure NothingReleased (s u : State) : Prop where
  forwardQueue : u.forwardQueue = s.forwardQueue
  headPhase : u.headPhase = s.headPhase
  run : u.opState = .run → s.opState = .run
  rsLink : u.rsLink = s.rsLink
  rsCredits : u.rsCredits = s.rsCredits
  backlog : u.backlog = [] → s.backlog = []
  tags : ∀ t, getAt u.tags t = .free ↔ getAt s.tags t = .free
  slots : ∀ l, getAt u.slots l = none ↔ getAt s.slots l = none
  reserved : u.reservedWords = s.reservedWords

theorem NothingReleased.grant (h : NothingReleased s u) {c : Classified} {x : Grant} (hg : u.grant c = some x) :
    s.grant c = some x := by
  have htag : ∀ t, u.freeTag = some t → s.freeTag = some t := fun t ht => by
    obtain ⟨hb, hfree, hlow⟩ := freeTag_eq_some_iff.mp ht
    exact freeTag_eq_some_iff.mpr ⟨h.backlog hb, (h.tags t).mp hfree, fun k hk => mt (h.tags k).mpr (hlow k hk)⟩
  have hslot : ∀ l, u.freeSlot = some l → s.freeSlot = some l := fun l hl => by
    obtain ⟨hfree, hlow⟩ := freeSlot_eq_some_iff.mp hl
    exact freeSlot_eq_some_iff.mpr ⟨(h.slots l).mp hfree, fun k hk => mt (h.slots k).mpr (hlow k hk)⟩
  have hcredits : s.rsCredits ≠ 0 := fun h0 => by simp [State.grant, h.rsCredits, h0] at hg
  rcases grant_cases hg with ⟨hc, rfl⟩ | ⟨t, hc, ht, ⟨ho, rfl⟩ | ⟨l, ho, hl, hw, rfl⟩⟩
  · simp [State.grant, hcredits, hc]
  · simp [State.grant, hcredits, hc, htag t ht, ho]
  · rw [h.reserved] at hw
    simp [State.grant, hcredits, hc, htag t ht, ho, hslot l hl, Config.holdWords, hw]

/-- A head that can be issued now could be issued before, and was left to its own step. -/
theorem NothingReleased.issueAfter_eq (h : NothingReleased s u) : issueAfter s u = u := by
  unfold issueAfter
  split
  · next hb =>
    refine issueNow_of_not_issuable (Option.eq_none_iff_forall_ne_some.mpr fun ⟨q, c, x⟩ hi => ?_)
    obtain ⟨w, more, hq, hp, hm, ho, hl, hw, hx⟩ := issuable_eq_some_iff.mp hi
    have hs := issuable_eq_some_iff.mpr ⟨w, more, h.forwardQueue ▸ hq, h.headPhase ▸ hp, hm, h.run ho, h.rsLink ▸ hl,
      hw, h.grant hx⟩
    simp [hs] at hb
  · rfl

theorem free_putAt_iff (hr : getAt s.tags g = .active r) {x : TagState} (hx : x ≠ .free) (t : PoolTag) :
    getAt (putAt s.tags g x) t = .free ↔ getAt s.tags t = .free := by
  rw [getAt_putAt]
  split
  · next h => subst h; simp [hr, hx]
  · rfl

/-- An ACTIVE entry that goes on or is QUARANTINED releases nothing. -/
theorem Noted.nothingReleased (h : Noted s u) (hr : getAt s.tags g = .active r) {x : TagState} (hx : x ≠ .free)
    (ht : v.tags = putAt s.tags g x) (hrun : v.opState = .run → u.opState = .run) (hb : v.backlog = [] → u.backlog = [])
    (hs : v.slots = u.slots := by rfl) (hq : v.forwardQueue = u.forwardQueue := by rfl)
    (hp : v.headPhase = u.headPhase := by rfl) (hl : v.rsLink = u.rsLink := by rfl)
    (hc : v.rsCredits = u.rsCredits := by rfl) : NothingReleased s v where
  forwardQueue := hq.trans h.forwardQueue
  headPhase := hp.trans h.headPhase
  run ho := h.opState ▸ hrun ho
  rsLink := hl.trans h.rsLink
  rsCredits := hc.trans h.rsCredits
  backlog hn := h.backlog ▸ hb hn
  tags t := by rw [ht]; exact free_putAt_iff hr hx t
  slots l := by rw [hs, h.slots]
  reserved := by rw [reservedWords_eq_tally, reservedWords_eq_tally, hs, h.slots]

/-- An element that keeps its reservation releases nothing. -/
theorem NothingReleased.withElement (h : NothingReleased s u) (he : getAt u.slots l = some e) {e' : Element}
    (hres : e'.reservation = e.reservation) : NothingReleased s (withElement l e' u) where
  forwardQueue := h.forwardQueue
  headPhase := h.headPhase
  run := h.run
  rsLink := h.rsLink
  rsCredits := h.rsCredits
  backlog := h.backlog
  tags := h.tags
  slots k := by
    rw [← h.slots k]
    show getAt (putAt u.slots l (some e')) k = none ↔ _
    rw [getAt_putAt]
    split
    · next hk => subst hk; simp [he]
    · rfl
  reserved := by
    have hsum := reservedWords_of_putAt (s := u) (u := Machine.withElement l e' u) rfl
    rw [he] at hsum
    simp only [slotReservation, Option.map_some, Option.getD_some, hres] at hsum
    rw [← h.reserved]
    omega

theorem run_of_withdrawn {x : TagState} (h : (withdrawn g x u).opState = .run) : u.opState = .run := by
  change (if _ then _ else _) = _ at h
  split at h
  · exact nomatch h
  · exact h

/-! ### The room distribution (R131) -/

theorem distribute_of_full (before : State) (h : 32 ≤ u.trafficQueue.length) : distribute before u = u := by
  have hroom : u.trafficHasRoom = false := by
    rw [← Bool.not_eq_true, trafficHasRoom_iff]; omega
  unfold distribute
  induction (ringFrom u.roomPointer).filter (madeReady before u) with
  | nil => rfl
  | cons k ks ih => simpa [hroom] using ih

/-- A producer that a step made ready, other than the Matcher (assumption 8). -/
theorem madeReady_iff {k : Fin 36} :
    madeReady s u k = true ↔
      Producer.at k ≠ .matcher ∧ u.ready (Producer.at k) = true ∧ s.ready (Producer.at k) = false := by
  simp [madeReady, and_assoc]

theorem distribute_of_none_madeReady
    (h : ∀ q, q ≠ Producer.matcher → u.ready q = true → s.ready q = true) : distribute s u = u := by
  have hnone : (ringFrom u.roomPointer).filter (madeReady s u) = [] := List.filter_eq_nil_iff.mpr fun k _ hk => by
    obtain ⟨hm, hu, hs⟩ := madeReady_iff.mp hk
    exact nomatch hs.symm.trans (h _ hm hu)
  rw [distribute, hnone]
  rfl

/-- The ring passes each position once. -/
theorem filter_ringFrom_eq (p k : Fin 36) : (ringFrom p).filter (· == k) = [k] := by
  have hnodup : (ringFrom p).Nodup := (List.nodup_finRange 36).map (add_right_injective p)
  have hmem : k ∈ ringFrom p := List.mem_map.mpr ⟨k - p, List.mem_finRange _, by simp⟩
  rw [List.filter_beq, List.count_eq_one_of_mem hnodup hmem]
  rfl

/-- The one producer that a step made ready is given a place. -/
theorem distribute_of_one_madeReady {k : Fin 36} (hroom : u.trafficQueue.length < 32)
    (hk : ∀ j, madeReady s u j = true ↔ j = k) : distribute s u = serveAt k u := by
  have hone : madeReady s u = (· == k) := funext fun j => by
    rw [Bool.eq_iff_iff, hk, beq_iff_eq]
  have hready : u.ready (Producer.at k) = true := (madeReady_iff.mp ((hk k).mpr rfl)).2.1
  rw [distribute, hone, filter_ringFrom_eq]
  simp [(trafficHasRoom_iff u).mpr hroom, hready]

theorem drains_iff (s : State) (n : SourceId) :
    s.drains n = true ↔
      ∃ l more e, getAt s.lists n = l :: more ∧ getAt s.slots l = some e ∧ e.drainBody.isSome = true := by
  unfold State.drains State.headSlot State.element
  cases getAt s.lists n with
  | nil => simp
  | cons l more => simp [Option.any_eq_true]

/-- Of the producers other than the Matcher, an entry's end can make the Answer Backlog and a draining head ready. -/
theorem Noted.ready (h : Noted s u) (hb : v.backlog ≠ [] → s.backlog ≠ [])
    {q : Producer} (hq : q ≠ .matcher) (hd : ∀ n, q = .drain n → s.rqLink = .up → v.drains n = true → s.drains n = true)
    (hready : v.ready q = true) (hm : v.malformedList = u.malformedList := by rfl)
    (hf : v.forwardQueue = u.forwardQueue := by rfl) (hp : v.headPhase = u.headPhase := by rfl)
    (hl : v.rqLink = u.rqLink := by rfl) : s.ready q = true := by
  cases q with
  | malformedList => simpa [State.ready, hm, h.malformedList] using hready
  | dispatch => simpa [State.ready, State.answers, hf, hp, h.forwardQueue, h.headPhase] using hready
  | backlog => simpa [State.ready] using hb (by simpa [State.ready] using hready)
  | matcher => exact absurd rfl hq
  | drain n =>
    obtain ⟨hup, hv⟩ := Bool.and_eq_true_iff.mp hready
    have hsup : s.rqLink = .up := h.rqLink ▸ hl ▸ of_decide_eq_true hup
    simp [State.ready, hsup, hd n rfl hsup hv]

theorem Noted.drains (h : Noted s u) (n : SourceId) (hs : v.slots = u.slots := by rfl)
    (hl : v.lists = u.lists := by rfl) : v.drains n = s.drains n := by
  rw [Bool.eq_iff_iff, drains_iff, drains_iff, hs, hl, h.slots, h.lists]

end

end Sys2Proof.Machine
end

section
/-! PROOF. The statements of the family: MATCHER_TAKE by the state of the packet's tag. -/

namespace Sys2Proof.Machine

section

variable {p : Arrived} {rest : List Arrived} {g : PoolTag} {q : QuarRec} {r : ActiveRec} {l : SlotId} {e : Element}
  {s u v : State}

/-! ### MATCHER_TAKE by the state of the packet's tag (R65, R66, R67) -/

theorem pool_of_tag (hg : g.val = p.tag.toNat) : p.pool = some g := by
  have hlt : p.tag.toNat < 64 := hg ▸ g.isLt
  rw [Arrived.pool, dif_pos hlt]
  exact congrArg some (Fin.ext hg.symm)

theorem pool_of_large_tag (h : 64 ≤ p.tag.toNat) : p.pool = none := dif_neg (Nat.not_lt.mpr h)

theorem tagStateOf_of_tag (hg : g.val = p.tag.toNat) : s.tagStateOf p = getAt s.tags g := by
  simp [State.tagStateOf, pool_of_tag hg]

theorem matcherTake_cons (hi : s.ingress = p :: rest) : matcherTake s = handlePacket p (takenPacket rest s) := by
  rw [← returnRsCredits_taken]
  simp [matcherTake, hi]

theorem exec_matcherTake_of_full (hi : s.ingress = p :: rest) (hn : s.needsRoom p = true)
    (hfull : 32 ≤ s.trafficQueue.length) : exec .matcherTake s = .next s := by
  have hroom : ¬s.trafficHasRoom = true := mt (trafficHasRoom_iff s).mp (Nat.not_lt.mpr hfull)
  have hstep : matcherStep s = s := if_pos (by simp [State.matcherNeedsRoom, hi, hn, hroom])
  show Host.Outcome.next (issueAfter s (matcherStep s)) = _
  rw [hstep, issueAfter_self]

theorem exec_matcherTake_of_placed (hi : s.ingress = p :: rest)
    (hroom : s.needsRoom p = true → s.trafficQueue.length < 32) (hm : s.matcherMismatches = false) :
    exec .matcherTake s = .next (issueAfter s (handlePacket p (takenPacket rest s))) := by
  have hwait : ¬(s.matcherNeedsRoom && !s.trafficHasRoom) = true := by
    simp only [State.matcherNeedsRoom, hi, Bool.and_eq_true, Bool.not_eq_true', not_and, Bool.not_eq_false,
      trafficHasRoom_iff]
    exact hroom
  have hstep : matcherStep s = matcherTake s := (if_neg hwait).trans (if_neg (ne_true_of_eq_false hm))
  show Host.Outcome.next (issueAfter s (matcherStep s)) = _
  rw [hstep, matcherTake_cons hi]

/-- A packet under a tag that is not ACTIVE places nothing and mismatches no entry. -/
theorem exec_matcherTake_of_inactive (hi : s.ingress = p :: rest) (hx : ∀ r, s.tagStateOf p ≠ .active r) :
    exec .matcherTake s = .next (issueAfter s (handlePacket p (takenPacket rest s))) := by
  cases ht : s.tagStateOf p with
  | free =>
    exact exec_matcherTake_of_placed hi (by simp [State.needsRoom, ht]) (by simp [State.matcherMismatches, hi, ht])
  | quarantined q =>
    exact exec_matcherTake_of_placed hi (by simp [State.needsRoom, ht]) (by simp [State.matcherMismatches, hi, ht])
  | active r => exact absurd ht (hx r)

theorem inconsistent_eq_false (hc : ¬Inconsistent p r) : p.inconsistent r = false :=
  Bool.eq_false_iff.mpr (mt (inconsistent_iff p r).mp hc)

theorem needsRoom_iff (hg : g.val = p.tag.toNat) (hr : getAt s.tags g = .active r) :
    s.needsRoom p = true ↔ ¬Inconsistent p r ∧ r.absorbed = false ∧ Forwarded s r := by
  simp only [State.needsRoom, tagStateOf_of_tag hg, hr, Bool.and_eq_true, Bool.not_eq_true', forwards_iff,
    ← inconsistent_iff, Bool.not_eq_true, and_assoc]

theorem matcherMismatches_iff (hi : s.ingress = p :: rest) (hg : g.val = p.tag.toNat)
    (hr : getAt s.tags g = .active r) : s.matcherMismatches = true ↔ Inconsistent p r := by
  simp only [State.matcherMismatches, hi, tagStateOf_of_tag hg, hr, inconsistent_iff]

theorem exec_matcherTake_of_consistent (hi : s.ingress = p :: rest) (hg : g.val = p.tag.toNat)
    (hr : getAt s.tags g = .active r) (hc : ¬Inconsistent p r)
    (hroom : r.absorbed = false → Forwarded s r → s.trafficQueue.length < 32) :
    exec .matcherTake s = .next (issueAfter s (takeConsistent g r p (takenPacket rest s))) := by
  have htag : getAt (takenPacket rest s).tags g = .active r := hr
  rw [exec_matcherTake_of_placed hi (fun hn => ?_) (Bool.eq_false_iff.mpr (mt (matcherMismatches_iff hi hg hr).mp hc))]
  · simp [handlePacket, pool_of_tag hg, htag, inconsistent_eq_false hc]
  · obtain ⟨-, habs, hf⟩ := (needsRoom_iff hg hr).mp hn
    exact hroom habs hf

theorem exec_matcherTake_of_inconsistent (hi : s.ingress = p :: rest) (hg : g.val = p.tag.toNat)
    (hr : getAt s.tags g = .active r) (hc : Inconsistent p r) :
    exec .matcherTake s = .next (issueAfter s (distribute s (takeMismatch g r (takenPacket rest s)))) := by
  have hn : s.matcherNeedsRoom = false := by
    rw [← Bool.not_eq_true, State.matcherNeedsRoom, hi]
    exact fun hn => ((needsRoom_iff hg hr).mp hn).1 hc
  have hstep : matcherStep s = distribute s (matcherTake s) :=
    (if_neg (by simp [hn])).trans (if_pos ((matcherMismatches_iff hi hg hr).mpr hc))
  have htag : getAt (takenPacket rest s).tags g = .active r := hr
  show Host.Outcome.next (issueAfter s (matcherStep s)) = _
  rw [hstep, matcherTake_cons hi]
  simp [handlePacket, pool_of_tag hg, htag, (inconsistent_iff p r).mpr hc]

end

/-! ### Unexpected and late responses (R69, R70) -/

/-- Settles O27: neither tag is ACTIVE, so the packet is handled with the error alone. -/
theorem unexpectedResponse : Obligations.UnexpectedResponse := by
  intro p rest s hi
  have hnoted := (noted_takenPacket rest s).report .unexpectedResponse (some .rs) p.ident
  refine ⟨fun hlarge => ?_, fun g hg hfree => ?_⟩
  · have hpool := pool_of_large_tag hlarge
    have hident : p.ident = Ident.none := by rw [Arrived.ident, hpool]; rfl
    rw [exec_matcherTake_of_inactive hi (by simp [State.tagStateOf, hpool]), handlePacket, hpool, ← hident]
    exact congrArg Host.Outcome.next hnoted.issueAfter_eq
  · have hpool := pool_of_tag hg
    have hident : p.ident = { Ident.none with pool := some g } := by rw [Arrived.ident, hpool]
    have htag : getAt (takenPacket rest s).tags g = .free := hfree
    rw [exec_matcherTake_of_inactive hi (by simp [tagStateOf_of_tag hg, hfree]), ← hident]
    simp only [handlePacket, hpool, htag]
    exact congrArg Host.Outcome.next hnoted.issueAfter_eq

/-- Settles O28, by whether the packet ends the request it answers. -/
theorem lateResponse : Obligations.LateResponse := by
  intro p rest g q s hi hg hq u
  have htag : getAt (takenPacket rest s).tags g = .quarantined q := hq
  have hnoted : Noted s u := (noted_takenPacket rest s).report _ _ _
  have hexec : exec .matcherTake s = .next (issueAfter s (if p.isFinal then setTag g .free u else u)) := by
    rw [exec_matcherTake_of_inactive hi (by simp [tagStateOf_of_tag hg, hq])]
    simp only [handlePacket, pool_of_tag hg, htag, takeLate, quarIdent_eq]
    rfl
  refine ⟨fun hk hl => ?_, fun h => ?_⟩
  · have hfinal : p.isFinal = false := by simp [Arrived.isFinal, hk, hl]
    rw [hexec, hfinal]
    exact congrArg Host.Outcome.next hnoted.issueAfter_eq
  · have hfinal : p.isFinal = true := by
      unfold Arrived.isFinal
      split
      · next hk => exact h.resolve_left fun hn => hn hk
      · rfl
      · rfl
    rw [hexec, hfinal, if_pos rfl, setTag, hnoted.tags]

/-! ### Consistent packets (R73 to R81) -/

section

variable {p : Arrived} {rest : List Arrived} {g : PoolTag} {r : ActiveRec} {l : SlotId} {e : Element} {u : State}

theorem withElement_withElement (l : SlotId) (e e' : Element) (u : State) :
    withElement l e' (withElement l e u) = withElement l e' u :=
  setSlot_setSlot l (some e) (some e') u

theorem takeConsistent_data (hk : p.kind = .data) (u : State) :
    takeConsistent g r p u =
      let v := if p.poison then report .poisonedData (some .rs) (entryIdent r.source r.tag r.kind g) u else u
      if u.forwards r then forwardData g r p v else storeData g r p v := by
  simp only [takeConsistent, hk, takeData, activeIdent_eq]

theorem forwardData_not_last (hl : p.last = false) :
    forwardData g r p u =
      { queued r.source r.tag (.data { words := p.data, last := p.last, poison := p.poison }) u with
        tags := putAt u.tags g
          (.active { r with received := r.received + p.data.length, delivered := true }) } := by
  simp [forwardData, hl, ActiveRec.receive, setTag, forwardBody, pushTraffic, queued, Arrived.segment]

theorem forwardData_last (hl : p.last = true) :
    forwardData g r p u = withdrawn g .free (released r.source r.link
      (queued r.source r.tag (.data { words := p.data, last := p.last, poison := p.poison }) u)) := by
  rw [forwardData, if_pos hl, leaveActive_eq_withdrawn, endForwarded_eq_released]
  rfl

theorem storeData_not_last (hl : r.link = some l) (he : getAt u.slots l = some e) (hlast : p.last = false) :
    storeData g r p u =
      withElement l { e with segs := e.segs ++ [{ words := p.data, last := p.last, poison := p.poison }] } { u with
        tags := putAt u.tags g (.active { r with received := r.received + p.data.length }) } := by
  simp only [storeData, hlast, mapLinked_eq_withElement hl he, ActiveRec.receive, Bool.or_false, setTag]
  simp [withElement, Arrived.segment, hlast]

theorem storeData_last (hl : r.link = some l) (he : getAt u.slots l = some e) (hlast : p.last = true) :
    storeData g r p u = withdrawn g .free (withElement l
      { e with
        segs := e.segs ++ [{ words := p.data, last := p.last, poison := p.poison }], state := .complete, link := none }
      u) := by
  rw [storeData, if_pos hlast, leaveActive_eq_withdrawn, mapLinked_eq_withElement hl he,
    mapLinked_eq_withElement hl (getAt_putAt_self _ _ _), withElement_withElement]
  rfl

theorem responderStatus_of_consistent (hk : p.kind = .fail) (hc : ¬Inconsistent p r) :
    ∃ st, responderStatus p.status = some st :=
  Option.ne_none_iff_exists'.mp fun hnone =>
    hc (.inr (.inr (.inr (.inr ⟨hk, (responderStatus_isNone p.status).mp hnone⟩))))

/-- A packet that is no segment, and the body that it has toward the requester (R77, R79). -/
def AnswersWith (p : Arrived) (b : Body) : Prop :=
  (p.kind = .done ∧ b = .done) ∨ ∃ st, p.kind = .fail ∧ responderStatus p.status = some st ∧ b = .fail st

theorem takeConsistent_forwarded {b : Body} (hb : AnswersWith p b) (habs : r.absorbed = false)
    (hf : u.forwards r = true) :
    takeConsistent g r p u =
      withdrawn g .free (released r.source r.link (queued r.source r.tag b u)) := by
  rw [← endForwarded_eq_released, ← leaveActive_eq_withdrawn]
  rcases hb with ⟨hk, rfl⟩ | ⟨st, hk, hst, rfl⟩
  · simp only [takeConsistent, hk, takeDone, habs, hf, if_true]
    rfl
  · simp only [takeConsistent, hk, hst, takeFail, habs, hf, if_true]
    rfl

theorem takeConsistent_done_stored (hb : AnswersWith p .done) (habs : r.absorbed = false)
    (hf : ¬u.forwards r = true) (hl : r.link = some l) (he : getAt u.slots l = some e) :
    takeConsistent g r p u =
      withdrawn g .free (withElement l { e with state := .complete, storedDone := true, link := none } u) := by
  obtain ⟨hk, -⟩ | ⟨st, -, -, h⟩ := hb
  · simp [takeConsistent, hk, takeDone, habs, hf, leaveActive_eq_withdrawn, mapLinked_eq_withElement hl he]
  · exact nomatch h

theorem takeConsistent_fail_stored {st : Status} (hb : AnswersWith p (.fail st)) (habs : r.absorbed = false)
    (hf : ¬u.forwards r = true) (hl : r.link = some l) (he : getAt u.slots l = some e) :
    takeConsistent g r p u = withdrawn g .free (withElement l (failedElement e st) u) := by
  obtain ⟨-, h⟩ | ⟨st', hk, hst, h⟩ := hb
  · exact nomatch h
  · obtain rfl := Body.fail.inj h
    simp only [takeConsistent, hk, hst, takeFail, habs, hf, leaveActive_eq_withdrawn, mapLinked_eq_withElement hl he]
    rfl

end

/-- Settles O33, by the packet's kind. -/
theorem absorbedEntryCompletes : Obligations.AbsorbedEntryCompletes := by
  intro p rest g r s hi hg hr hc habs
  rw [exec_matcherTake_of_consistent hi hg hr hc fun h => nomatch habs.symm.trans h]
  refine ⟨fun hk => ?_, fun hk => ?_⟩
  · simp only [takeConsistent, hk, takeDone, habs, if_true, leaveActive_eq_withdrawn]
  · obtain ⟨st, hst⟩ := responderStatus_of_consistent hk hc
    simp only [takeConsistent, hk, hst, takeFail, habs, if_true, leaveActive_eq_withdrawn, activeIdent_eq]

/-- Settles O30: the segment joins the queue, and the last one ends the entry. -/
theorem dataIsForwarded : Obligations.DataIsForwarded := by
  intro p rest g r s hi hg hr hk hc habs hf u v
  have hnoted : Noted s u := ((noted_takenPacket rest s).report _ _ _).ite (noted_takenPacket rest s)
  have hexec (hroom : s.trafficQueue.length < 32) :
      exec .matcherTake s = .next (issueAfter s (forwardData g r p u)) := by
    rw [exec_matcherTake_of_consistent hi hg hr hc fun _ _ => hroom, takeConsistent_data hk]
    exact congrArg (fun x => Host.Outcome.next (issueAfter s x))
      (if_pos (((noted_takenPacket rest s).forwards r).mpr hf))
  refine ⟨exec_matcherTake_of_full hi ((needsRoom_iff hg hr).mpr ⟨hc, habs, hf⟩), fun hroom hl => ?_,
    fun hroom hl => by rw [hexec hroom, forwardData_last hl]⟩
  rw [hexec hroom, forwardData_not_last hl, hnoted.tags]
  refine congrArg Host.Outcome.next (NothingReleased.issueAfter_eq ?_)
  exact hnoted.nothingReleased hr TagState.noConfusion rfl id id

/-- Settles O31: the segment joins the element's, and the last one completes the element. -/
theorem dataIsStored : Obligations.DataIsStored := by
  intro p rest g r l e s hi hg hr hk hc habs hf hl he u segs
  have hnoted : Noted s u := ((noted_takenPacket rest s).report _ _ _).ite (noted_takenPacket rest s)
  have hslot : getAt u.slots l = some e := hnoted.slots ▸ he
  have hexec : exec .matcherTake s = .next (issueAfter s (storeData g r p u)) := by
    rw [exec_matcherTake_of_consistent hi hg hr hc fun _ h => absurd h hf, takeConsistent_data hk]
    exact congrArg (fun x => Host.Outcome.next (issueAfter s x))
      (if_neg (mt ((noted_takenPacket rest s).forwards r).mp hf))
  refine ⟨fun hlast => ?_, fun hlast => by rw [hexec, storeData_last hl hslot hlast]⟩
  rw [hexec, storeData_not_last hl hslot hlast, hnoted.tags]
  refine congrArg Host.Outcome.next (NothingReleased.issueAfter_eq ?_)
  refine NothingReleased.withElement (e := e) ?_ ?_ ?_
  · exact hnoted.nothingReleased hr TagState.noConfusion rfl id id
  · exact hslot
  · rfl

/-- Settles O32, by whether the entry's responses are forwarded. -/
theorem doneAndFailCompleteTheEntry : Obligations.DoneAndFailCompleteTheEntry := by
  intro p rest g r b s hi hg hr hc habs hb
  have hans : AnswersWith p b := hb.imp_right fun h => by
    obtain ⟨hk, hst, hbody⟩ | ⟨hk, hst, hbody⟩ := h
    · exact ⟨.unsupported, hk, by rw [hst]; rfl, hbody⟩
    · exact ⟨.abort, hk, by rw [hst]; rfl, hbody⟩
  have hforwards := (noted_takenPacket rest s).forwards r
  have hexec (hroom : Forwarded s r → s.trafficQueue.length < 32) :=
    exec_matcherTake_of_consistent hi hg hr hc fun _ => hroom
  refine ⟨fun hf => exec_matcherTake_of_full hi ((needsRoom_iff hg hr).mpr ⟨hc, habs, hf⟩), fun hf hroom => ?_,
    fun l e hf hl he hdone => ?_, fun l e st hf hl he hfail => ?_⟩
  · rw [hexec fun _ => hroom, takeConsistent_forwarded hans habs (hforwards.mpr hf)]
  · subst hdone
    rw [hexec fun h => absurd h hf, takeConsistent_done_stored hans habs (mt hforwards.mp hf) hl he]
  · subst hfail
    rw [hexec fun h => absurd h hf, takeConsistent_fail_stored hans habs (mt hforwards.mp hf) hl he]

/-! ### Inconsistent packets (R71, R72) -/

section

variable {g : PoolTag} {r : ActiveRec} {l : SlotId} {e : Element} {st : Status} {x : TagState} {s u v : State}

theorem Noted.terminate_eq (h : Noted s u) (hr : getAt s.tags g = .active r) (st : Status) :
    terminate g (some st) .quarantined u = withdrawn g (s.abandoned r) (answerEntry r (some st) u) := by
  have htag : getAt u.tags g = .active r := h.tags ▸ hr
  have hdest : u.destState r .quarantined = s.abandoned r := by
    simp only [State.destState, State.quarantineOf, State.abandoned, h.tick, h.quarantineLimit]
  simp only [terminate, htag, hdest, leaveActive_eq_withdrawn]

theorem answerEntry_unordered (habs : r.absorbed = false) (hl : r.link = none) (st : Status) (u : State) :
    answerEntry r (some st) u =
      counted r.source (· - 1) (placeFail { source := r.source, tag := r.tag, status := st } u) := by
  simp only [answerEntry, habs, hl]
  rfl

theorem answerEntry_ordered (habs : r.absorbed = false) (hl : r.link = some l) (he : getAt u.slots l = some e)
    (st : Status) : answerEntry r (some st) u = withElement l (failedElement e st) u := by
  simp only [answerEntry, habs, hl, mapElement_of_some he]
  rfl

theorem placeFail_of_room (hb : u.backlog = []) (hroom : u.trafficQueue.length < 32) (a : BacklogAnswer) :
    placeFail a u = queued a.source a.tag (.fail a.status) u :=
  if_pos (Bool.and_eq_true_iff.mpr ⟨List.isEmpty_iff.mpr hb, (trafficHasRoom_iff u).mpr hroom⟩)

theorem placeFail_of_wait (h : u.backlog ≠ [] ∨ 32 ≤ u.trafficQueue.length) (a : BacklogAnswer) :
    placeFail a u = { u with backlog := u.backlog ++ [a] } := by
  refine if_neg fun hc => ?_
  obtain ⟨hb, hroom⟩ := Bool.and_eq_true_iff.mp hc
  exact h.elim (fun hn => hn (List.isEmpty_iff.mp hb)) (Nat.not_le.mpr ((trafficHasRoom_iff u).mp hroom))

/-- An element that fails becomes a draining head only where it stands at a list's head with no stored segment. -/
theorem Noted.drains_of_failed (h : Noted s u) (he : getAt s.slots l = some e)
    {n : SourceId} (hwait : (∀ more, getAt s.lists n ≠ l :: more) ∨ e.segs ≠ [])
    (hd : (withdrawn g x (withElement l (failedElement e st) u)).drains n = true) : s.drains n = true := by
  obtain ⟨k, more, d, hlist, hslot, hbody⟩ := (drains_iff _ n).mp hd
  change getAt u.lists n = _ at hlist
  change getAt (putAt u.slots l _) k = _ at hslot
  rw [h.lists] at hlist
  rw [h.slots] at hslot
  refine (drains_iff s n).mpr ?_
  by_cases hk : l = k
  · subst hk
    exact ⟨l, more, e, hlist, he, (drainBody_isSome e).mpr (.inl (hwait.resolve_left fun hn => hn more hlist))⟩
  · rw [getAt_putAt_ne _ _ hk] at hslot
    exact ⟨k, more, d, hlist, hslot, hbody⟩

theorem drainHead_of_failed {n : SourceId} {more : List SlotId} (hlist : getAt u.lists n = l :: more)
    (he : getAt u.slots l = some e) (hsegs : e.segs = []) (hst : e.state = .failed st) :
    drainHead n u = released n (some l) (queued n e.tag (.fail st) u) := by
  have hbody : e.drainBody = some (.fail st) := by simp [Element.drainBody, hsegs, hst]
  have hfinal : e.drainsFinal = true := by simp [Element.drainsFinal, hsegs]
  simp only [drainHead, State.headSlot, State.element, hlist, List.head?_cons, he, hbody, afterDrain, hfinal, if_true]
  rfl

end

/-- The position of source `n` in the ring (R131). -/
def drainPosition (n : SourceId) : Fin 36 := ⟨n.val + 4, by omega⟩

theorem at_drainPosition (n : SourceId) : Producer.at (drainPosition n) = .drain n := (at_eq_drain _ n).mpr rfl

theorem drainPosition_add_one (n : SourceId) : drainPosition n + 1 = Fin.ofNat 36 (n.val + 5) := by
  revert n; decide

section

variable {n : SourceId} {l : SlotId} {more : List SlotId} {g : PoolTag} {r : ActiveRec} {x : TagState} {e : Element}
  {st : Status} {s u : State}

/-- A failed delivering head is the one producer that its failure made ready. -/
theorem Noted.madeReady_of_failed_head (h : Noted s u) (hlist : getAt s.lists n = l :: more)
    (honly : ∀ m more', getAt s.lists m = l :: more' → m = n) (he : getAt s.slots l = some e)
    (hstate : e.state = .awaiting) (hsegs : e.segs = []) (hup : s.rqLink = .up) (k : Fin 36) :
    madeReady s (withdrawn g x (withElement l (failedElement e st) u)) k = true ↔ k = drainPosition n := by
  rw [madeReady_iff]
  constructor
  · rintro ⟨hm, hready, hbefore⟩
    by_contra hk
    refine absurd (h.ready (v := withdrawn g x (withElement l _ u)) (fun hn => h.backlog ▸ hn) hm
      (fun m hkm _ hd => h.drains_of_failed he (.inl fun more' hl => hk ?_) hd) hready) (ne_true_of_eq_false hbefore)
    obtain rfl := honly m more' hl
    exact Fin.ext ((at_eq_drain k m).mp hkm)
  · rintro rfl
    rw [at_drainPosition]
    refine ⟨Producer.noConfusion, Bool.and_eq_true_iff.mpr ⟨decide_eq_true (h.rqLink.trans hup), ?_⟩, ?_⟩
    · exact (drains_iff _ n).mpr ⟨l, more, failedElement e st, h.lists ▸ hlist, getAt_putAt_self _ _ _, rfl⟩
    · refine Bool.eq_false_iff.mpr fun hd => ?_
      obtain ⟨l', more', d, hl, hd, hbody⟩ := (drains_iff s n).mp (Bool.and_eq_true_iff.mp hd).2
      obtain ⟨rfl, -⟩ := List.cons.inj (hlist.symm.trans hl)
      obtain rfl := Option.some.inj (he.symm.trans hd)
      simp [Element.drainBody, hsegs, hstate] at hbody

/-- The FAIL of a failed delivering head enters where there is room, and the pointer moves past its source. -/
theorem Noted.distribute_of_failed_head (h : Noted s u) (hlist : getAt s.lists n = l :: more)
    (honly : ∀ m more', getAt s.lists m = l :: more' → m = n) (he : getAt s.slots l = some e)
    (hstate : e.state = .awaiting) (hsegs : e.segs = []) (hup : s.rqLink = .up) (hroom : s.trafficQueue.length < 32) :
    distribute s (withdrawn g x (withElement l (failedElement e st) u)) =
      { released n (some l) (queued n e.tag (.fail st) (withdrawn g x u)) with
        roomPointer := Fin.ofNat 36 (n.val + 5) } := by
  have hlist' : getAt (withdrawn g x (withElement l (failedElement e st) u)).lists n = l :: more := h.lists ▸ hlist
  rw [distribute_of_one_madeReady (k := drainPosition n) (h.trafficQueue.symm ▸ hroom)
    (h.madeReady_of_failed_head hlist honly he hstate hsegs hup), serveAt, at_drainPosition, serve,
    drainHead_of_failed hlist' (getAt_putAt_self _ _ _) rfl rfl, drainPosition_add_one]
  simp [released, counted, queued, withdrawn, withElement, failedElement, putAt_putAt_self]

/-- An entry without an element that is QUARANTINED makes no producer ready that finds a place, and no head can be
issued that could not be issued before. -/
theorem Noted.quiet_of_unordered (h : Noted s u) (hr : getAt s.tags g = .active r) {sources : Table SourceEntry 32}
    {traffic : List Response} {backlog : List BacklogAnswer} (hb : backlog = [] → s.backlog = [])
    (hw : backlog ≠ [] → s.backlog ≠ [] ∨ 32 ≤ traffic.length) :
    let v := withdrawn g (s.abandoned r) { u with sources := sources, trafficQueue := traffic, backlog := backlog }
    issueAfter s (distribute s v) = v := by
  intro v
  have hring : distribute s v = v := by
    by_cases hfull : 32 ≤ traffic.length
    · exact distribute_of_full s hfull
    · have hback : v.backlog ≠ [] → s.backlog ≠ [] := fun hn => (hw hn).resolve_right hfull
      exact distribute_of_none_madeReady fun q hq hready =>
        h.ready hback hq (fun n _ _ hd => h.drains (v := v) n ▸ hd) hready
  rw [hring]
  refine NothingReleased.issueAfter_eq ?_
  exact h.nothingReleased hr TagState.noConfusion (congrArg (putAt · g _) h.tags) run_of_withdrawn fun hn =>
    h.backlog.trans (hb hn)

end

/-- Settles O29, by where the entry's answer goes: of the failed elements only a delivering head finds a place. -/
theorem mismatchTerminatesTheEntry : Obligations.MismatchTerminatesTheEntry := by
  intro p rest g r s hi hg hr hc u
  have hnoted : Noted s u := (noted_takenPacket rest s).report _ _ _
  have hexec {v : State} (hv : answerEntry r (some .mismatch) u = v) :
      exec .matcherTake s = .next (issueAfter s (distribute s (withdrawn g (s.abandoned r) v))) := by
    rw [exec_matcherTake_of_inconsistent hi hg hr hc, takeMismatch, activeIdent_eq, ← hv, ← hnoted.terminate_eq hr]
  refine ⟨fun habs => ?_, fun habs hl hb hroom => ?_, fun habs hl hwait => ?_, fun l e habs hl he hwait => ?_,
    fun l e more ho habs hl he hlist hsegs hup hroom => ?_⟩
  · rw [hexec (answerEntry_of_absorbed habs _ u)]
    exact congrArg Host.Outcome.next (hnoted.quiet_of_unordered hr (fun hn => hnoted.backlog ▸ hn)
      fun hn => .inl (hnoted.backlog ▸ hn))
  · have hanswer := answerEntry_unordered habs hl .mismatch u
    rw [placeFail_of_room (hnoted.backlog.trans hb) (hnoted.trafficQueue ▸ hroom)] at hanswer
    rw [hexec hanswer]
    exact congrArg Host.Outcome.next (hnoted.quiet_of_unordered hr (fun _ => hb)
      fun hn => absurd (hnoted.backlog.trans hb) hn)
  · have hanswer := answerEntry_unordered habs hl .mismatch u
    rw [placeFail_of_wait (by rwa [hnoted.backlog, hnoted.trafficQueue]), hnoted.backlog] at hanswer
    rw [hexec hanswer]
    refine congrArg Host.Outcome.next (hnoted.quiet_of_unordered hr (fun hn => by simp at hn) fun _ => ?_)
    rwa [hnoted.trafficQueue]
  · have hslot : getAt u.slots l = some e := hnoted.slots ▸ he
    rw [hexec (answerEntry_ordered habs hl hslot .mismatch)]
    refine congrArg (fun v => Host.Outcome.next (issueAfter s v)) ?_
    by_cases hfull : 32 ≤ s.trafficQueue.length
    · exact distribute_of_full s (hnoted.trafficQueue.symm ▸ hfull)
    · refine distribute_of_none_madeReady fun q hq hready => ?_
      refine hnoted.ready (v := withdrawn g _ (withElement l _ u)) (fun hn => hnoted.backlog ▸ hn) hq
        (fun n _ hup hd => ?_) hready
      refine hnoted.drains_of_failed he ?_ hd
      rcases hwait with h | h | h | h
      · exact .inl (h n)
      · exact absurd h hfull
      · exact .inr h
      · exact nomatch hup.symm.trans h
  · have hslot : getAt u.slots l = some e := hnoted.slots ▸ he
    obtain ⟨hmem, d, hd, hlink, htag, -⟩ := ho.entry g r l hr hl
    obtain rfl := Option.some.inj (he.symm.trans hd)
    have hstate : e.state = .awaiting := (ho.awaiting l e he).1.mpr (by simp [hlink])
    have honly (m : SourceId) (more' : List SlotId) (hm : getAt s.lists m = l :: more') : m = r.source :=
      ho.disjoint m r.source l (hm ▸ List.mem_cons_self) hmem
    rw [hexec (answerEntry_ordered habs hl hslot .mismatch),
      hnoted.distribute_of_failed_head hlist honly he hstate hsegs hup hroom, htag]

end Sys2Proof.Machine
end

section
/-! PROOF. The statement of the family: DRAIN_STEP sends one packet of a draining head. -/

namespace Sys2Proof.Machine

section

variable {n : SourceId} {l : SlotId} {rest : List SlotId} {e : Element} {b : Body} {s u : State}

/-! ### When a source drains (R89, R94) -/

theorem drains_of_head (hlist : getAt s.lists n = l :: rest) (he : getAt s.slots l = some e) :
    s.drains n = e.drainBody.isSome := by
  simp [State.drains, State.headSlot, State.element, hlist, he]

theorem exec_drainStep_of_blocked (h : 32 ≤ s.trafficQueue.length ∨ s.rqLink = .down ∨ s.drains n = false) :
    exec (.drainStep n) s = .next s := by
  have hblocked : 32 ≤ s.trafficQueue.length ∨ s.ready (.drain n) = false :=
    h.imp_right fun hd => hd.elim (fun hdown => by simp [State.ready, hdown]) fun hn => by simp [State.ready, hn]
  show Host.Outcome.next (issueAfter s (placeDirect (.drain n) s)) = _
  rw [placeDirect_of_blocked hblocked, issueAfter_self]

theorem exec_drainStep_of_drains (hup : s.rqLink = .up) (hroom : s.trafficQueue.length < 32)
    (hd : s.drains n = true) : exec (.drainStep n) s = .next (issueAfter s (drainHead n s)) := by
  show Host.Outcome.next (issueAfter s (placeDirect (.drain n) s)) = _
  rw [placeDirect_of_ready hroom (by simp [State.ready, hup, hd])]
  rfl

/-! ### What a draining head sends (R94) -/

theorem drainHead_eq_afterDrain (hlist : getAt s.lists n = l :: rest) (he : getAt s.slots l = some e)
    (hb : e.drainBody = some b) : drainHead n s = afterDrain n l e (queued n e.tag b s) := by
  simp only [drainHead, State.headSlot, State.element, hlist, List.head?_cons, he, hb]
  rfl

theorem drainHead_of_final (hlist : getAt s.lists n = l :: rest) (he : getAt s.slots l = some e)
    (hb : e.drainBody = some b) (hf : e.drainsFinal = true) :
    drainHead n s = released n (some l) (queued n e.tag b s) := by
  rw [drainHead_eq_afterDrain hlist he hb, afterDrain, if_pos hf]
  rfl

theorem drainHead_of_not_final (hlist : getAt s.lists n = l :: rest) (he : getAt s.slots l = some e)
    (hb : e.drainBody = some b) (hf : e.drainsFinal = false) :
    drainHead n s = markDelivered e (withElement l { e with segs := e.segs.tail } (queued n e.tag b s)) := by
  rw [drainHead_eq_afterDrain hlist he hb, afterDrain, if_neg (Bool.eq_false_iff.mp hf),
    mapElement_of_some (s := queued n e.tag b s) he]
  rfl

/-- The delivered flag of a live entry is set (R4). -/
theorem markDelivered_eq (e : Element) (s : State) :
    markDelivered e s = { s with
      tags := match e.link with
        | none => s.tags
        | some g =>
          match getAt s.tags g with
          | .active r => putAt s.tags g (.active { r with delivered := true })
          | _ => s.tags } := by
  unfold markDelivered setDelivered
  cases e.link with
  | none => rfl
  | some g => dsimp only; cases getAt s.tags g <;> rfl

theorem drainsFinal_of_segment {x : Segment} {more : List Segment} (hs : e.segs = x :: more)
    (hwait : more ≠ [] ∨ e.state ≠ .complete ∨ e.storedDone = true) : e.drainsFinal = false := by
  cases more with
  | nil => simpa [Element.drainsFinal, hs, imp_iff_not_or] using hwait
  | cons y ys => simp [Element.drainsFinal, hs]

/-! ### A packet that is not final releases no resource (R37, R90) -/

theorem nothingReleased_queued (n : SourceId) (tag : ReqTag) (b : Body) (s : State) :
    NothingReleased s (queued n tag b s) where
  forwardQueue := rfl
  headPhase := rfl
  run := id
  rsLink := rfl
  rsCredits := rfl
  backlog := id
  tags _ := Iff.rfl
  slots _ := Iff.rfl
  reserved := rfl

/-- The entry whose delivered flag is set stays ACTIVE. -/
theorem free_markDelivered_iff (e : Element) (s : State) (t : PoolTag) :
    getAt (markDelivered e s).tags t = .free ↔ getAt s.tags t = .free := by
  unfold markDelivered setDelivered
  split
  · split
    · next r hr => exact free_putAt_iff hr TagState.noConfusion t
    · rfl
  · rfl

theorem NothingReleased.markDelivered (h : NothingReleased s u) (e : Element) :
    NothingReleased s (markDelivered e u) where
  forwardQueue := by simp [h.forwardQueue]
  headPhase := by simp [h.headPhase]
  run := by simpa using h.run
  rsLink := by simp [h.rsLink]
  rsCredits := by simp [h.rsCredits]
  backlog := by simpa using h.backlog
  tags t := (free_markDelivered_iff e u t).trans (h.tags t)
  slots := by simpa using h.slots
  reserved := by
    rw [← h.reserved, reservedWords_eq_tally, reservedWords_eq_tally]
    simp

end

/-- Settles O34, by what the head sends: nothing, a stored segment that more follows, or its final response. Only the
last releases a resource that a waiting head could lack. -/
theorem drainStepSendsOnePacket : Obligations.DrainStepSendsOnePacket := by
  intro n s
  refine ⟨fun hnil => exec_drainStep_of_blocked (.inr (.inr ?_)), fun l rest e hlist he => ⟨fun hwait => ?_,
    fun hup hroom => ?_⟩⟩
  · simp [State.drains, State.headSlot, hnil]
  · refine exec_drainStep_of_blocked ?_
    rcases hwait with hdown | hfull | ⟨hawaiting, hsegs⟩
    · exact .inr (.inl hdown)
    · exact .inl hfull
    · exact .inr (.inr (by simp [drains_of_head hlist he, Element.drainBody, hsegs, hawaiting]))
  · have hexec {b : Body} (hb : e.drainBody = some b) :
        exec (.drainStep n) s = .next (issueAfter s (drainHead n s)) :=
      exec_drainStep_of_drains hup hroom (by simp [drains_of_head hlist he, hb])
    refine ⟨fun x more hsegs hwait => ?segment, fun x hsegs hstate hdone => ?lastSegment,
      fun hsegs hstate hdone => ?done, fun st hsegs hstate => ?fail⟩
    case segment =>
      have hb : e.drainBody = some (.data x) := by simp [Element.drainBody, hsegs]
      have hquiet := ((nothingReleased_queued n e.tag (.data x) s).withElement he
        (e' := { e with segs := e.segs.tail }) rfl).markDelivered e
      rw [hexec hb, drainHead_of_not_final hlist he hb (drainsFinal_of_segment hsegs hwait), hquiet.issueAfter_eq,
        hsegs, List.tail_cons, markDelivered_eq]
      rfl
    case lastSegment =>
      have hb : e.drainBody = some (.data x) := by simp [Element.drainBody, hsegs]
      rw [hexec hb, drainHead_of_final hlist he hb (by simp [Element.drainsFinal, hsegs, hstate, hdone])]
    case done =>
      have hb : e.drainBody = some .done := by simp [Element.drainBody, hsegs, hstate, hdone]
      rw [hexec hb, drainHead_of_final hlist he hb (by simp [Element.drainsFinal, hsegs])]
    case fail =>
      rw [hexec (b := .fail st) (by simp [Element.drainBody, hsegs, hstate]), drainHead_of_failed hlist he hsegs hstate]

end Sys2Proof.Machine
end

section
/-! PROOF. The Tick Generator's divider, and the rows EXPIRY and LAPSE of one tag. -/

namespace Sys2Proof.Machine

section

variable {g : PoolTag} {q : QuarRec} {r : ActiveRec} {s u : State}

/-! ### Lapse (R112) -/

/-- A tag after the lapse of its quarantine, if that has run its limit at tick count `now` (R110, R112). -/
def TagState.lapsed (now : Tick) : TagState → TagState
  | .quarantined q => if q.limit.toNat ≤ (now - q.startTick).toNat then .free else .quarantined q
  | x => x

theorem lapsed_of_not_quarantined {now : Tick} {x : TagState} (h : ∀ q, x ≠ .quarantined q) : x.lapsed now = x := by
  cases x with
  | quarantined q => exact absurd rfl (h q)
  | free => rfl
  | active r => rfl

theorem setTag_getAt (g : PoolTag) (s : State) : setTag g (getAt s.tags g) s = s := by
  simp [setTag, putAt, getAt]

theorem lapseDue_iff : s.lapseDue q = true ↔ q.limit.toNat ≤ (s.tick.count - q.startTick).toNat := decide_eq_true_iff

theorem lapseTag_eq (g : PoolTag) (s : State) :
    lapseTag g s = setTag g ((getAt s.tags g).lapsed s.tick.count) s := by
  unfold lapseTag
  split
  · next q hq =>
    rw [hq, TagState.lapsed]
    split
    · next hdue => rw [if_pos (lapseDue_iff.mp hdue)]
    · next hdue => rw [if_neg (mt lapseDue_iff.mpr hdue), ← hq, setTag_getAt]
  · next hn => rw [lapsed_of_not_quarantined hn, setTag_getAt]

theorem exec_lapse_of_unmoved (h : (getAt s.tags g).lapsed s.tick.count = getAt s.tags g) :
    exec (.lapse g) s = .next s := by
  show Host.Outcome.next (issueAfter s (lapseTag g s)) = _
  rw [lapseTag_eq, h, setTag_getAt, issueAfter_self]

end

/-- Settles O17, by whether the tag's quarantine is due. -/
theorem lapseFreesTheTag : Obligations.LapseFreesTheTag := by
  intro g s
  refine ⟨fun hq => exec_lapse_of_unmoved (lapsed_of_not_quarantined hq), fun q hq hlt => exec_lapse_of_unmoved ?_,
    fun q hq hle => congrArg (fun u => Host.Outcome.next (issueAfter s u)) ?_⟩
  · rw [hq, TagState.lapsed, if_neg (Nat.not_le.mpr hlt)]
  · rw [lapseTag_eq, hq, TagState.lapsed, if_pos hle, setTag]

/-! ### The divider (R106, R108) -/

theorem exec_prescaledStep_of_run {s : State} (hrun : s.tick.run = true) :
    exec .prescaledStep s = .next (issueAfter s (prescaledStep s)) := by
  show Host.Outcome.next (if s.tick.run then issueAfter s (prescaledStep s) else s) = _
  rw [if_pos hrun]

theorem exec_tickEvent_of_due {s : State} (hrun : s.tick.run = true) (hzero : s.tick.downCounter = 0#16) :
    exec .tickEvent s = .next (issueAfter s (tickEvent s)) :=
  congrArg Host.Outcome.next (if_pos ⟨hrun, hzero⟩)

theorem exec_tickEvent_of_not_due {s : State} (h : s.tick.run = false ∨ s.tick.downCounter ≠ 0#16) :
    exec .tickEvent s = .next s :=
  congrArg Host.Outcome.next (if_neg fun ⟨hrun, hzero⟩ => h.elim (fun hn => nomatch hn.symm.trans hrun) (· hzero))

theorem step_of_empty {s : State} (hp : s.pending = []) : step s = .next (clockPeriod s) := by
  simp [step, hp]

/-- Settles O3. A waiting head's resources do not depend on the Tick Generator, so that of the divider's steps only the
tick event can issue it. -/
theorem clockPeriodAndPrescaledStep : Obligations.ClockPeriodAndPrescaledStep := by
  intro s
  refine ⟨fun hp hrun => ?_, fun hp hrun hlt => ?_, fun hp hrun hle => ?_, fun hrun => ?_, fun hrun hne => ?_,
    fun hrun hzero => ?_⟩
  · simp [step_of_empty hp, clockPeriod, hrun]
  · simp [step_of_empty hp, clockPeriod, hrun, hlt]
  · have hdiv : clockPeriod s =
        issueAfter s (prescaledStep { s with tick := { s.tick with division := 0 } }) := by
      simp [clockPeriod, hrun, Nat.not_lt.mpr hle]
    rw [step_of_empty hp, hdiv]
    exact (exec_prescaledStep_of_run (s := { s with tick := { s.tick with division := 0 } }) hrun).symm
  · show Host.Outcome.next (if s.tick.run then _ else s) = _
    rw [hrun]
    rfl
  · rw [exec_prescaledStep_of_run hrun, prescaledStep, if_neg hne]
    exact congrArg Host.Outcome.next (issueAfter_eq rfl rfl rfl rfl rfl rfl rfl rfl)
  · rw [exec_prescaledStep_of_run hrun, prescaledStep_of_zero hzero, exec_tickEvent_of_due hrun hzero]

/-! ### Expiry (R111) -/

/-- The expiry of the entry `r` under tag `g` reported (R111). -/
def timeoutReported (g : PoolTag) (r : ActiveRec) (s : State) : State :=
  report .responseTimeout (some .rs) (entryIdent r.source r.tag r.kind g) s

section

variable {g : PoolTag} {r : ActiveRec} {l : SlotId} {e : Element} {st : Status} {x : TagState} {s u v : State}

theorem noted_timeoutReported (g : PoolTag) (r : ActiveRec) (s : State) : Noted s (timeoutReported g r s) :=
  Noted.report (by constructor <;> rfl) _ _ _

theorem expiryDue_iff : s.expiryDue r = true ↔ r.limit.toNat ≤ (s.tick.count - r.issueTick).toNat := decide_eq_true_iff

theorem expireTag_of_inactive (h : ∀ r, getAt s.tags g ≠ .active r) : expireTag g s = s := by
  unfold expireTag
  split
  · next r hr => exact absurd hr (h r)
  · rfl

theorem expireTag_of_not_due (hr : getAt s.tags g = .active r) (h : s.expiryDue r = false) : expireTag g s = s := by
  simp [expireTag, hr, h]

theorem expireTag_of_due (hr : getAt s.tags g = .active r) (h : s.expiryDue r = true) :
    expireTag g s =
      withdrawn g (s.abandoned r) (answerEntry r (some .timeout) (timeoutReported g r s)) := by
  rw [← (noted_timeoutReported g r s).terminate_eq hr]
  simp only [expireTag, hr, h, if_true, activeIdent_eq, timeoutReported]

theorem distribute_self (s : State) : distribute s s = s := distribute_of_none_madeReady fun _ _ h => h

theorem exec_expiry_of_unmoved (h : expireTag g s = s) : exec (.expiry g) s = .next s := by
  show Host.Outcome.next (issueAfter s (distribute s (expireTag g s))) = _
  rw [h, distribute_self, issueAfter_self]

theorem exec_expiry_of_due (hr : getAt s.tags g = .active r) (h : s.expiryDue r = true)
    (hv : answerEntry r (some .timeout) (timeoutReported g r s) = v) :
    exec (.expiry g) s = .next (issueAfter s (distribute s (withdrawn g (s.abandoned r) v))) := by
  show Host.Outcome.next (issueAfter s (distribute s (expireTag g s))) = _
  rw [expireTag_of_due hr h, hv]

/-- A failed element that is no delivering head with a place to go to waits for its drain step. -/
theorem Noted.distribute_of_failed_waiting (h : Noted s u) (he : getAt s.slots l = some e)
    (hwait : (∀ m rest, getAt s.lists m ≠ l :: rest) ∨ 32 ≤ s.trafficQueue.length ∨ e.segs ≠ [] ∨ s.rqLink = .down) :
    distribute s (withdrawn g x (withElement l (failedElement e st) u)) =
      withdrawn g x (withElement l (failedElement e st) u) := by
  by_cases hfull : 32 ≤ s.trafficQueue.length
  · exact distribute_of_full s (h.trafficQueue.symm ▸ hfull)
  · refine distribute_of_none_madeReady fun q hq hready => ?_
    refine h.ready (v := withdrawn g x (withElement l _ u)) (fun hn => h.backlog ▸ hn) hq (fun n _ hup hd => ?_) hready
    refine h.drains_of_failed he ?_ hd
    rcases hwait with hlist | hroom | hsegs | hdown
    · exact .inl (hlist n)
    · exact absurd hroom hfull
    · exact .inr hsegs
    · exact nomatch hup.symm.trans hdown

/-- The element of an ACTIVE entry waits under the entry's requester tag, in the list of its source alone. -/
theorem OrderSound.element_of_entry (h : OrderSound s) (hr : getAt s.tags g = .active r) (hl : r.link = some l)
    (he : getAt s.slots l = some e) :
    e.state = .awaiting ∧ e.tag = r.tag ∧ ∀ m rest, getAt s.lists m = l :: rest → m = r.source := by
  obtain ⟨hmem, d, hd, hlink, htag, -⟩ := h.entry g r l hr hl
  obtain rfl := Option.some.inj (he.symm.trans hd)
  exact ⟨(h.awaiting l e he).1.mpr (by simp [hlink]), htag, fun m rest hm =>
    h.disjoint m r.source l (hm ▸ List.mem_cons_self) hmem⟩

end

/-- Settles O16, by where the entry's answer goes: of the failed elements only a delivering head finds a place. -/
theorem expiryAnswersTimeout : Obligations.ExpiryAnswersTimeout := by
  intro g s
  refine ⟨fun hr => exec_expiry_of_unmoved (expireTag_of_inactive hr), fun r hr hlt => exec_expiry_of_unmoved
    (expireTag_of_not_due hr (decide_eq_false (Nat.not_le.mpr hlt))), ?_⟩
  intro r hr hle u
  have hnoted : Noted s u := noted_timeoutReported g r s
  have hexec {v : State} (hv : answerEntry r (some .timeout) u = v) := exec_expiry_of_due hr (expiryDue_iff.mpr hle) hv
  refine ⟨fun habs => ?_, fun habs hl hb hroom => ?_, fun habs hl hwait => ?_, fun l e habs hl he hwait => ?_,
    fun l e more ho habs hl he hlist hsegs hup hroom => ?_⟩
  · rw [hexec (answerEntry_of_absorbed habs _ u)]
    exact congrArg Host.Outcome.next (hnoted.quiet_of_unordered hr (fun hn => hnoted.backlog ▸ hn)
      fun hn => .inl (hnoted.backlog ▸ hn))
  · have hanswer := answerEntry_unordered habs hl .timeout u
    rw [placeFail_of_room (hnoted.backlog.trans hb) (hnoted.trafficQueue ▸ hroom)] at hanswer
    rw [hexec hanswer]
    exact congrArg Host.Outcome.next (hnoted.quiet_of_unordered hr (fun _ => hb)
      fun hn => absurd (hnoted.backlog.trans hb) hn)
  · have hanswer := answerEntry_unordered habs hl .timeout u
    rw [placeFail_of_wait (by rwa [hnoted.backlog, hnoted.trafficQueue]), hnoted.backlog] at hanswer
    rw [hexec hanswer]
    refine congrArg Host.Outcome.next (hnoted.quiet_of_unordered hr (fun hn => by simp at hn) fun _ => ?_)
    rwa [hnoted.trafficQueue]
  · rw [hexec (answerEntry_ordered habs hl (hnoted.slots ▸ he) .timeout), hnoted.distribute_of_failed_waiting he hwait]
  · obtain ⟨hstate, htag, honly⟩ := ho.element_of_entry hr hl he
    rw [hexec (answerEntry_ordered habs hl (hnoted.slots ▸ he) .timeout),
      hnoted.distribute_of_failed_head hlist honly he hstate hsegs hup hroom, htag]

end Sys2Proof.Machine
end

section
/-! PROOF. Entries ended one after another, in the words of `Terminated`: what the end of one entry changes, what a
run of ends adds up to, and how a run over the pool tags comes to be a run over the entries that it ends. -/

namespace Sys2Proof.Machine

/-! ### The end of one entry (R7, R8, R9) -/

/-- The FAIL that a terminated entry owes: an unordered one that is not absorbed owes its source an answer (R8). -/
def owedFail (st : Status) (r : ActiveRec) : Option BacklogAnswer :=
  if r.absorbed = false ∧ r.link = none then some { source := r.source, tag := r.tag, status := st } else none

/-- An entry answered with `st`, its tag gone to `dest` (R7). -/
def endEntry (st : Status) (dest : ActiveRec → TagState) (s : State) (p : PoolTag × ActiveRec) : State :=
  withdrawn p.1 (dest p.2) (answerEntry p.2 (some st) s)

section

variable {st : Status} {dest : ActiveRec → TagState} {which : ActiveRec → Bool} {g : PoolTag} {r : ActiveRec}
  {l : SlotId} {n : SourceId} {p : PoolTag × ActiveRec} {L : List (PoolTag × ActiveRec)} {s u v : State}

theorem owedFail_eq_none (h : r.absorbed = true ∨ r.link ≠ none) (st : Status) : owedFail st r = none :=
  if_neg fun ⟨habs, hl⟩ => h.elim (fun ha => nomatch habs.symm.trans ha) (· hl)

theorem owedFail_eq_some (habs : r.absorbed = false) (hl : r.link = none) (st : Status) :
    owedFail st r = some { source := r.source, tag := r.tag, status := st } := if_pos ⟨habs, hl⟩

/-- The answer to an entry, by its kind: none, a FAIL placed, or its element failed in place. -/
theorem answerEntry_cases (r : ActiveRec) (st : Status) (s : State) :
    (r.absorbed = true ∧ answerEntry r (some st) s = s) ∨
      (r.absorbed = false ∧ r.link = none ∧ answerEntry r (some st) s =
        counted r.source (· - 1) (placeFail { source := r.source, tag := r.tag, status := st } s)) ∨
      ∃ l, r.absorbed = false ∧ r.link = some l ∧
        answerEntry r (some st) s = mapElement l (fun e => failedElement e st) s := by
  cases habs : r.absorbed with
  | true => exact .inl ⟨rfl, answerEntry_of_absorbed habs _ s⟩
  | false =>
    cases hl : r.link with
    | none => exact .inr (.inl ⟨rfl, rfl, answerEntry_unordered habs hl st s⟩)
    | some l => exact .inr (.inr ⟨l, rfl, rfl, by simp only [answerEntry, habs, hl]; rfl⟩)

theorem endEntry_tags (p : PoolTag × ActiveRec) (s : State) :
    (endEntry st dest s p).tags = putAt s.tags p.1 (dest p.2) := by
  simp [endEntry, withdrawn]

theorem getAt_tags_endEntry (p : PoolTag × ActiveRec) (s : State) (g : PoolTag) :
    getAt (endEntry st dest s p).tags g = if p.1 = g then dest p.2 else getAt s.tags g := by
  rw [endEntry_tags, getAt_putAt]

theorem getAt_slots_endEntry (p : PoolTag × ActiveRec) (s : State) (l : SlotId) :
    getAt (endEntry st dest s p).slots l =
      if p.2.absorbed = false ∧ p.2.link = some l then (getAt s.slots l).map fun e => failedElement e st
      else getAt s.slots l := by
  show getAt (answerEntry p.2 (some st) s).slots l = _
  rcases answerEntry_cases p.2 st s with ⟨habs, h⟩ | ⟨-, hl, h⟩ | ⟨k, habs, hl, h⟩
  · simp [h, habs]
  · simp [h, hl, counted]
  · simp only [h, habs, hl, mapElement, getAt_slots_setSlot, State.element, true_and, Option.some.injEq]
    split
    · next hk => rw [hk]
    · rfl

theorem getAt_sources_endEntry (p : PoolTag × ActiveRec) (s : State) (n : SourceId) :
    getAt (endEntry st dest s p).sources n = { getAt s.sources n with
      count := (getAt s.sources n).count - (owedFail st p.2).toList.countP fun a => decide (a.source = n) } := by
  show getAt (answerEntry p.2 (some st) s).sources n = _
  rcases answerEntry_cases p.2 st s with ⟨habs, h⟩ | ⟨habs, hl, h⟩ | ⟨k, habs, hl, h⟩
  · simp [h, owedFail_eq_none (.inl habs)]
  · simp only [h, owedFail_eq_some habs hl, counted, placeFail_keeps, getAt_putAt, Option.toList_some,
      List.countP_singleton, decide_eq_true_eq]
    split
    · next hn => rw [hn]
    · rfl
  · simp [h, owedFail_eq_none (.inr (hl ▸ Option.some_ne_none k)), mapElement]

theorem endEntry_queues (p : PoolTag × ActiveRec) (s : State) :
    (endEntry st dest s p).trafficQueue =
        s.trafficQueue ++ ((owedFail st p.2).toList.take s.directPlaces).map failResponse ∧
      (endEntry st dest s p).backlog = s.backlog ++ (owedFail st p.2).toList.drop s.directPlaces := by
  show (answerEntry p.2 (some st) s).trafficQueue = _ ∧ (answerEntry p.2 (some st) s).backlog = _
  rcases answerEntry_cases p.2 st s with ⟨habs, h⟩ | ⟨habs, hl, h⟩ | ⟨k, habs, hl, h⟩
  · simp [h, owedFail_eq_none (.inl habs)]
  · rw [h, owedFail_eq_some habs hl, Option.toList_some]
    by_cases hroom : s.backlog = [] ∧ s.trafficQueue.length < 32
    · obtain ⟨k, hk⟩ : ∃ k, s.directPlaces = k + 1 :=
        Nat.exists_eq_succ_of_ne_zero (by rw [State.directPlaces, if_pos hroom.1]; omega)
      rw [placeFail_of_room hroom.1 hroom.2, hk]
      simp [counted, queued, failResponse]
    · have hk : s.directPlaces = 0 := by
        unfold State.directPlaces
        split
        · next hb => exact Nat.sub_eq_zero_of_le (Nat.le_of_not_lt fun hlt => hroom ⟨hb, hlt⟩)
        · rfl
      rw [placeFail_of_wait (by rwa [not_and_or, Nat.not_lt] at hroom), hk]
      simp [counted]
  · simp [h, owedFail_eq_none (.inr (hl ▸ Option.some_ne_none k)), mapElement]

/-- `u` is `s` but for entries, elements, counts and the answers owed. -/
def OnlyEnded (s u : State) : Prop :=
  u = { s with tags := u.tags, trafficQueue := u.trafficQueue, backlog := u.backlog, slots := u.slots,
               sources := u.sources, opState := u.opState }

theorem OnlyEnded.trans (h : OnlyEnded s u) (k : OnlyEnded u v) : OnlyEnded s v := Eq.trans k (by rw [h])

theorem OnlyEnded.same (h : OnlyEnded s u) :
    u.err = s.err ∧ u.alert = s.alert ∧ u.haltRequested = s.haltRequested ∧ u.tick = s.tick ∧
      u.quarantineLimit = s.quarantineLimit ∧ u.lists = s.lists ∧ u.rqLink = s.rqLink := by
  rw [h]
  exact ⟨rfl, rfl, rfl, rfl, rfl, rfl, rfl⟩

theorem onlyEnded_endEntry (st : Status) (dest : ActiveRec → TagState) (p : PoolTag × ActiveRec) (s : State) :
    OnlyEnded s (endEntry st dest s p) := by
  unfold endEntry
  rcases answerEntry_cases p.2 st s with ⟨-, h⟩ | ⟨-, -, h⟩ | ⟨k, -, -, h⟩
  · rw [h]; rfl
  · rw [h]
    rcases placeFail_cases { source := p.2.source, tag := p.2.tag, status := st } s with ⟨-, hp⟩ | ⟨-, hp⟩
    · rw [hp]; rfl
    · rw [hp]; rfl
  · rw [h]; rfl

/-! ### A run of ends (R7, R14, R15) -/

/-- The entries of `L` ended one after another. -/
def endEntries (st : Status) (dest : ActiveRec → TagState) (L : List (PoolTag × ActiveRec)) (s : State) : State :=
  L.foldl (endEntry st dest) s

@[simp] theorem endEntries_nil (st : Status) (dest : ActiveRec → TagState) (s : State) :
    endEntries st dest [] s = s := rfl

@[simp] theorem endEntries_cons (st : Status) (dest : ActiveRec → TagState) (p : PoolTag × ActiveRec)
    (L : List (PoolTag × ActiveRec)) (s : State) :
    endEntries st dest (p :: L) s = endEntries st dest L (endEntry st dest s p) := rfl

theorem onlyEnded_endEntries (st : Status) (dest : ActiveRec → TagState) (L : List (PoolTag × ActiveRec)) (s : State) :
    OnlyEnded s (endEntries st dest L s) := by
  induction L generalizing s with
  | nil => rfl
  | cons p L ih => exact (onlyEnded_endEntry st dest p s).trans (ih _)

/-- A tag that the list ends goes where its entry does; another stays. -/
theorem getAt_tags_endEntries {x : TagState} (h : ∀ p ∈ L, p.1 = g → dest p.2 = x) :
    getAt (endEntries st dest L s).tags g = if ∃ p ∈ L, p.1 = g then x else getAt s.tags g := by
  induction L generalizing s with
  | nil => simp
  | cons p L ih =>
    have hp := h p List.mem_cons_self
    rw [endEntries_cons, ih fun q hq => h q (List.mem_cons_of_mem p hq), getAt_tags_endEntry]
    by_cases hg : p.1 = g
    · simp [hg, hp hg]
    · simp only [List.exists_mem_cons_iff, hg, if_false, false_or]

theorem failedElement_failedElement (e : Element) (st : Status) :
    failedElement (failedElement e st) st = failedElement e st := rfl

theorem getAt_slots_endEntries (L : List (PoolTag × ActiveRec)) (s : State) (l : SlotId) :
    getAt (endEntries st dest L s).slots l =
      if ∃ p ∈ L, p.2.absorbed = false ∧ p.2.link = some l then (getAt s.slots l).map fun e => failedElement e st
      else getAt s.slots l := by
  induction L generalizing s with
  | nil => simp
  | cons p L ih =>
    rw [endEntries_cons, ih, getAt_slots_endEntry]
    by_cases hp : p.2.absorbed = false ∧ p.2.link = some l
    · simp [hp, Function.comp_def, failedElement_failedElement]
    · simp only [List.exists_mem_cons_iff, hp, if_false, false_or]

/-- The FAILs that the entries of `L` owe, in the list's order. -/
def owedFails (st : Status) (L : List (PoolTag × ActiveRec)) : List BacklogAnswer :=
  L.filterMap fun p => owedFail st p.2

theorem owedFails_cons (st : Status) (p : PoolTag × ActiveRec) (L : List (PoolTag × ActiveRec)) :
    owedFails st (p :: L) = (owedFail st p.2).toList ++ owedFails st L := by
  cases h : owedFail st p.2 with
  | none => simp [owedFails, h]
  | some a => simp [owedFails, h]

theorem getAt_sources_endEntries (L : List (PoolTag × ActiveRec)) (s : State) (n : SourceId) :
    getAt (endEntries st dest L s).sources n = { getAt s.sources n with
      count := (getAt s.sources n).count - (owedFails st L).countP fun a => decide (a.source = n) } := by
  induction L generalizing s with
  | nil => simp [owedFails]
  | cons p L ih =>
    rw [endEntries_cons, ih, getAt_sources_endEntry, owedFails_cons, List.countP_append, Nat.sub_sub]

/-- The places that the first answers leave to those that follow (R8). -/
theorem directPlaces_endEntry (p : PoolTag × ActiveRec) (s : State) :
    (endEntry st dest s p).directPlaces = s.directPlaces - (owedFail st p.2).toList.length := by
  obtain ⟨ht, hb⟩ := endEntry_queues (st := st) (dest := dest) p s
  unfold State.directPlaces at *
  rw [ht, hb]
  by_cases hs : s.backlog = []
  · simp only [hs, if_true, List.nil_append, List.drop_eq_nil_iff, List.length_append, List.length_map,
      List.length_take]
    split
    · omega
    · omega
  · simp [hs]

theorem endEntries_queues (L : List (PoolTag × ActiveRec)) (s : State) :
    (endEntries st dest L s).trafficQueue =
        s.trafficQueue ++ ((owedFails st L).take s.directPlaces).map failResponse ∧
      (endEntries st dest L s).backlog = s.backlog ++ (owedFails st L).drop s.directPlaces := by
  induction L generalizing s with
  | nil => simp [owedFails]
  | cons p L ih =>
    obtain ⟨ht, hb⟩ := endEntry_queues (st := st) (dest := dest) p s
    obtain ⟨iht, ihb⟩ := ih (endEntry st dest s p)
    rw [endEntries_cons, iht, ihb, ht, hb, directPlaces_endEntry, owedFails_cons, List.take_append, List.drop_append]
    simp

/-- No end of an entry makes a tag ACTIVE. -/
theorem activeTags_endEntries_le (hd : ∀ r, (dest r).isActive = false) (L : List (PoolTag × ActiveRec)) (s : State) :
    (endEntries st dest L s).activeTags ≤ s.activeTags := by
  induction L generalizing s with
  | nil => exact le_rfl
  | cons p L ih =>
    have hcount : (endEntry st dest s p).activeTags = (setTag p.1 (dest p.2) s).activeTags :=
      activeTags_congr (endEntry_tags p s)
    exact (ih _).trans (hcount.trans_le (activeTags_setTag_le s p.1 (hd p.2)))

theorem opState_endEntry (p : PoolTag × ActiveRec) (s : State) :
    (endEntry st dest s p).opState =
      if s.opState = .quiescing ∧ (endEntry st dest s p).activeTags = 0 then .quiesced else s.opState := by
  have ho : (answerEntry p.2 (some st) s).opState = s.opState := by simp
  rw [← ho]
  rfl

/-- The drained event of a run of ends: the last tag to leave ACTIVE makes QUIESCING QUIESCED (R15). -/
theorem opState_endEntries (hd : ∀ r, (dest r).isActive = false) (L : List (PoolTag × ActiveRec)) (s : State) :
    (endEntries st dest L s).opState =
      if s.opState = .quiescing ∧ L ≠ [] ∧ (endEntries st dest L s).activeTags = 0 then .quiesced else s.opState := by
  induction L generalizing s with
  | nil => simp
  | cons p L ih =>
    rw [endEntries_cons, ih, opState_endEntry]
    by_cases hq : s.opState = .quiescing
    · by_cases hlast : (endEntry st dest s p).activeTags = 0
      · have hzero := Nat.le_zero.mp (hlast ▸ activeTags_endEntries_le (st := st) hd L (endEntry st dest s p))
        simp [hq, hlast, hzero]
      · cases L with
        | nil => simp [hq, hlast]
        | cons q L => simp [hq, hlast]
    · simp [hq]

/-! ### The picked entries (R7) -/

/-- The entry under tag `g`, where `which` picks it. -/
def State.entryAt (s : State) (which : ActiveRec → Bool) (g : PoolTag) : Option (PoolTag × ActiveRec) :=
  match getAt s.tags g with
  | .active r => if which r = true then some (g, r) else none
  | _ => none

theorem entriesOf_eq_filterMap (s : State) (which : ActiveRec → Bool) :
    s.entriesOf which = (List.finRange 64).filterMap (s.entryAt which) := rfl

theorem entryAt_eq_some_iff :
    s.entryAt which g = some p ↔ p.1 = g ∧ getAt s.tags g = .active p.2 ∧ which p.2 = true := by
  obtain ⟨k, r⟩ := p
  unfold State.entryAt
  split
  · next q hq =>
    rw [hq]
    simp only [Option.ite_none_right_eq_some, Option.some.injEq, Prod.mk.injEq, TagState.active.injEq]
    constructor
    · rintro ⟨hw, rfl, rfl⟩
      exact ⟨rfl, rfl, hw⟩
    · rintro ⟨rfl, rfl, hw⟩
      exact ⟨hw, rfl, rfl⟩
  · next hn => exact ⟨nofun, fun ⟨_, hr, _⟩ => absurd hr (hn r)⟩

theorem mem_entriesOf : p ∈ s.entriesOf which ↔ getAt s.tags p.1 = .active p.2 ∧ which p.2 = true := by
  simp only [entriesOf_eq_filterMap, List.mem_filterMap, List.mem_finRange, true_and, entryAt_eq_some_iff]
  constructor
  · rintro ⟨g, rfl, h⟩
    exact h
  · exact fun h => ⟨p.1, rfl, h⟩

theorem entriesOf_congr (h : u.tags = s.tags) (which : ActiveRec → Bool) : u.entriesOf which = s.entriesOf which := by
  simp only [State.entriesOf, h]

theorem activeTags_eq_zero_iff : s.activeTags = 0 ↔ s.entriesOf (fun _ => true) = [] := by
  constructor
  · refine fun h => List.eq_nil_iff_forall_not_mem.mpr fun p hp => ?_
    obtain ⟨hr, -⟩ := mem_entriesOf.mp hp
    have hzero : ∀ x ∈ s.tags.toList, ¬x.isActive = true := List.countP_eq_zero.mp h
    refine hzero (getAt s.tags p.1) ?_ (by rw [hr]; rfl)
    rw [toList_eq_map_getAt]
    exact List.mem_map_of_mem (List.mem_finRange p.1)
  · refine fun h => activeTags_eq_zero fun g r hr => ?_
    have hmem : (g, r) ∈ s.entriesOf fun _ => true := mem_entriesOf.mpr ⟨hr, rfl⟩
    rw [h] at hmem
    exact nomatch hmem

/-- A run over the tags that ends some entries, each by `act`, is a run over these entries, for which a state with `P`
stays one. -/
theorem foldl_eq_foldl_entries {f : State → PoolTag → State} {act : State → PoolTag × ActiveRec → State}
    {P : State → Prop} (hnone : ∀ s g, P s → s.entryAt which g = none → f s g = s)
    (hsome : ∀ s g p, P s → s.entryAt which g = some p → f s g = act s p) (hP : ∀ s p, P s → P (act s p))
    (hkeep : ∀ s p g, p.1 ≠ g → getAt (act s p).tags g = getAt s.tags g) {l : List PoolTag} (hl : l.Nodup)
    (hs : P s) : l.foldl f s = (l.filterMap (s.entryAt which)).foldl act s := by
  induction l generalizing s with
  | nil => rfl
  | cons g l ih =>
    obtain ⟨hg, hl⟩ := List.nodup_cons.mp hl
    cases h : s.entryAt which g with
    | none => rw [List.filterMap_cons_none h, List.foldl_cons, hnone s g hs h, ih hl hs]
    | some p =>
      have hrest : l.filterMap ((act s p).entryAt which) = l.filterMap (s.entryAt which) :=
        List.filterMap_congr fun k hk => by
          have hne : p.1 ≠ k := fun e => hg ((entryAt_eq_some_iff.mp h).1 ▸ e ▸ hk)
          simp only [State.entryAt, hkeep s p k hne]
      rw [List.filterMap_cons_some h, List.foldl_cons, List.foldl_cons, hsome s g p hs h, ih hl (hP s p hs), hrest]

theorem exists_mem_entriesOf (hr : getAt s.tags g = .active r) :
    (∃ p ∈ s.entriesOf which, p.1 = g) ↔ which r = true := by
  constructor
  · rintro ⟨p, hp, rfl⟩
    obtain ⟨hp, hw⟩ := mem_entriesOf.mp hp
    exact TagState.active.inj (hp.symm.trans hr) ▸ hw
  · exact fun hw => ⟨(g, r), mem_entriesOf.mpr ⟨hr, hw⟩, rfl⟩

theorem getAt_tags_endEntries_of_inactive (h : ∀ r, getAt s.tags g ≠ .active r) :
    getAt (endEntries st dest (s.entriesOf which) s).tags g = getAt s.tags g := by
  have hno : ∀ p ∈ s.entriesOf which, p.1 ≠ g := by
    rintro p hp rfl
    exact h p.2 (mem_entriesOf.mp hp).1
  rw [getAt_tags_endEntries (x := .free) fun p hp he => absurd he (hno p hp), if_neg fun ⟨p, hp, he⟩ => hno p hp he]

/-- The picked entries ended one after another are terminated (R7, R8, R9, R14). -/
theorem terminated_endEntries (which : ActiveRec → Bool) (st : Status) (dest : ActiveRec → TagState) (s : State) :
    Terminated which st dest s (endEntries st dest (s.entriesOf which) s) where
  tags g := by
    cases hg : getAt s.tags g with
    | active r =>
      have hdest : ∀ p ∈ s.entriesOf which, p.1 = g → dest p.2 = dest r := by
        rintro p hp rfl
        rw [TagState.active.inj ((mem_entriesOf.mp hp).1.symm.trans hg)]
      simp only [getAt_tags_endEntries hdest, exists_mem_entriesOf hg, hg]
    | free => exact (getAt_tags_endEntries_of_inactive fun r hr => nomatch hg.symm.trans hr).trans hg
    | quarantined q => exact (getAt_tags_endEntries_of_inactive fun r hr => nomatch hg.symm.trans hr).trans hg
  traffic := (endEntries_queues _ s).1
  backlog := (endEntries_queues _ s).2
  failed g r l hr hw habs hl := by
    rw [getAt_slots_endEntries, if_pos ⟨(g, r), mem_entriesOf.mpr ⟨hr, hw⟩, habs, hl⟩]
  kept l h := by
    refine (getAt_slots_endEntries _ s l).trans (if_neg ?_)
    rintro ⟨p, hp, habs, hl⟩
    obtain ⟨hr, hw⟩ := mem_entriesOf.mp hp
    exact h p.1 p.2 hr hw habs hl
  counts n := getAt_sources_endEntries _ s n
  rest := onlyEnded_endEntries st dest _ s

end

end Sys2Proof.Machine
end

section
/-! PROOF. The two passes of the tick event: its expiries as a termination after all their reports, and its lapses. -/

namespace Sys2Proof.Machine

section

variable {st : Status} {dest : ActiveRec → TagState} {which : ActiveRec → Bool} {g : PoolTag} {r : ActiveRec}
  {l : SlotId} {n : SourceId} {e : Element} {p : PoolTag × ActiveRec} {L : List (PoolTag × ActiveRec)} {s u v w : State}

/-! ### Reports before, among or after the ends of entries (R111) -/

/-- A report reads the Error Unit, the Alert Unit, the tick count and whether the part is HALTED, and writes the units
and the halt request (R140 to R143, R153). -/
theorem report_of_same (k : ErrorKind) (port : Option PortId) (id : Ident) (herr : u.err = s.err)
    (halert : u.alert = s.alert) (hhalt : u.haltRequested = s.haltRequested) (htick : u.tick = s.tick)
    (ho : u.opState = .halted ↔ s.opState = .halted) :
    report k port id u = { u with
      err := (report k port id s).err
      alert := (report k port id s).alert
      haltRequested := (report k port id s).haltRequested } := by
  have hne : decide (u.opState ≠ .halted) = decide (s.opState ≠ .halted) := decide_eq_decide.mpr (not_congr ho)
  unfold report
  rw [herr]
  split
  · rw [← halert, ← hhalt]
  · simp only [reportUnmasked, halert, hhalt, htick, hne]

theorem endEntry_setErrors (p : PoolTag × ActiveRec) (s : State) (a : ErrorUnit) (b : AlertUnit) (c : Bool) :
    endEntry st dest { s with err := a, alert := b, haltRequested := c } p =
      { endEntry st dest s p with err := a, alert := b, haltRequested := c } := by
  have hplace (x : BacklogAnswer) : placeFail x { s with err := a, alert := b, haltRequested := c } =
      { placeFail x s with err := a, alert := b, haltRequested := c } := by
    unfold placeFail State.trafficHasRoom
    split
    · rfl
    · rfl
  obtain ⟨g, r⟩ := p
  unfold endEntry answerEntry
  split
  · rfl
  · split
    · exact congrArg (fun y => withdrawn g (dest r) (lowerCount r.source y)) (hplace _)
    · rfl
    · rfl
    · rfl

theorem report_endEntry (k : ErrorKind) (port : Option PortId) (id : Ident) (p : PoolTag × ActiveRec) (s : State) :
    report k port id (endEntry st dest s p) = endEntry st dest (report k port id s) p := by
  obtain ⟨herr, halert, hhalt, htick, -⟩ := (onlyEnded_endEntry st dest p s).same
  have ho : (endEntry st dest s p).opState = .halted ↔ s.opState = .halted := by
    rw [opState_endEntry]
    split
    · next h => simp [h.1]
    · rfl
  have hreport := report_of_same k port id (u := s) rfl rfl rfl rfl Iff.rfl
  rw [report_of_same k port id herr halert hhalt htick ho, ← endEntry_setErrors, ← hreport]

theorem timeoutsReported_cons (p : PoolTag × ActiveRec) (L : List (PoolTag × ActiveRec)) (s : State) :
    timeoutsReported (p :: L) s = timeoutsReported L (timeoutReported p.1 p.2 s) := rfl

theorem timeoutsReported_endEntry (L : List (PoolTag × ActiveRec)) (p : PoolTag × ActiveRec) (s : State) :
    timeoutsReported L (endEntry st dest s p) = endEntry st dest (timeoutsReported L s) p := by
  induction L generalizing s with
  | nil => rfl
  | cons q L ih =>
    have hq : timeoutReported q.1 q.2 (endEntry st dest s p) = endEntry st dest (timeoutReported q.1 q.2 s) p :=
      report_endEntry _ _ _ _ _
    rw [timeoutsReported_cons, hq, ih, timeoutsReported_cons]

/-- Entries reported and ended in turn are as all reported, and then all ended. -/
theorem foldl_reportedEnd (L : List (PoolTag × ActiveRec)) (s : State) :
    L.foldl (fun s p => endEntry st dest (timeoutReported p.1 p.2 s) p) s =
      endEntries st dest L (timeoutsReported L s) := by
  induction L generalizing s with
  | nil => rfl
  | cons p L ih =>
    rw [List.foldl_cons, ih, timeoutsReported_endEntry, timeoutsReported_cons]
    rfl

theorem Noted.timeoutsReported (h : Noted s u) (L : List (PoolTag × ActiveRec)) :
    Noted s (timeoutsReported L u) := by
  induction L generalizing u with
  | nil => exact h
  | cons p L ih => exact ih (h.report _ _ _)

theorem noted_timeoutsReported (L : List (PoolTag × ActiveRec)) (s : State) : Noted s (timeoutsReported L s) :=
  Noted.timeoutsReported (by constructor <;> rfl) L

/-! ### The expiries of a tick event (R110, R111) -/

/-- The expiries of a tick event, in ascending order of pool tag. -/
def expirePass (s : State) : State := (List.finRange 64).foldl (fun s t => expireTag t s) s

/-- The clock and the quarantine limit, which every expiry of a tick event reads and none changes. -/
def SameClock (s u : State) : Prop := u.tick = s.tick ∧ u.quarantineLimit = s.quarantineLimit

theorem sameClock_endEntry (h : SameClock s u) (p : PoolTag × ActiveRec) : SameClock s (endEntry st dest u p) := by
  obtain ⟨-, -, -, htick, hlimit, -⟩ := (onlyEnded_endEntry st dest p u).same
  exact ⟨htick.trans h.1, hlimit.trans h.2⟩

theorem sameClock_timeoutReported (h : SameClock s u) (g : PoolTag) (r : ActiveRec) :
    SameClock s (timeoutReported g r u) := by
  have hnoted := noted_timeoutReported g r u
  exact ⟨hnoted.tick.trans h.1, hnoted.quarantineLimit.trans h.2⟩

theorem expireTag_of_entryAt_none (h : s.entryAt s.expiryDue g = none) : expireTag g s = s := by
  cases hr : getAt s.tags g with
  | active r =>
    refine expireTag_of_not_due hr (Bool.eq_false_iff.mpr fun hdue => ?_)
    exact nomatch h.symm.trans (entryAt_eq_some_iff.mpr ⟨rfl, hr, hdue⟩ : _ = some (g, r))
  | free => exact expireTag_of_inactive fun r hn => nomatch hr.symm.trans hn
  | quarantined q => exact expireTag_of_inactive fun r hn => nomatch hr.symm.trans hn

theorem expireTag_of_entryAt_some (h : s.entryAt s.expiryDue g = some p) :
    expireTag g s = endEntry .timeout s.abandoned (timeoutReported p.1 p.2 s) p := by
  obtain ⟨rfl, hr, hdue⟩ := entryAt_eq_some_iff.mp h
  exact expireTag_of_due hr hdue

theorem expirePass_eq (s : State) : expirePass s =
    endEntries .timeout s.abandoned (s.entriesOf s.expiryDue) (timeoutsReported (s.entriesOf s.expiryDue) s) := by
  have hdue {u : State} (h : SameClock s u) : u.expiryDue = s.expiryDue := by
    funext r
    rw [Bool.eq_iff_iff, expiryDue_iff, expiryDue_iff, h.1]
  have hdest {u : State} (h : SameClock s u) : u.abandoned = s.abandoned := by
    funext r
    simp only [State.abandoned, h.1, h.2]
  rw [← foldl_reportedEnd, entriesOf_eq_filterMap]
  refine foldl_eq_foldl_entries (P := SameClock s) (fun u g hu hn => ?_) (fun u g p hu hp => ?_) (fun u p hu => ?_)
    (fun u p g hne => ?_) (List.nodup_finRange 64) ⟨rfl, rfl⟩
  · exact expireTag_of_entryAt_none (hdue hu ▸ hn)
  · rw [← hdest hu]
    exact expireTag_of_entryAt_some (hdue hu ▸ hp)
  · exact sameClock_endEntry (sameClock_timeoutReported hu p.1 p.2) p
  · rw [getAt_tags_endEntry, if_neg hne, (noted_timeoutReported p.1 p.2 u).tags]

theorem terminated_expirePass (s : State) :
    Terminated s.expiryDue .timeout s.abandoned (timeoutsReported (s.entriesOf s.expiryDue) s) (expirePass s) := by
  have hnoted := noted_timeoutsReported (s.entriesOf s.expiryDue) s
  have h := terminated_endEntries s.expiryDue .timeout s.abandoned (timeoutsReported (s.entriesOf s.expiryDue) s)
  rwa [entriesOf_congr hnoted.tags, ← expirePass_eq] at h

theorem opState_expirePass (s : State) :
    (expirePass s).opState =
      if s.opState = .quiescing ∧ s.entriesOf s.expiryDue ≠ [] ∧ (expirePass s).entriesOf (fun _ => true) = [] then
        .quiesced
      else s.opState := by
  have hnoted := noted_timeoutsReported (s.entriesOf s.expiryDue) s
  have h := opState_endEntries (st := .timeout) (dest := s.abandoned) (fun _ => rfl) (s.entriesOf s.expiryDue)
    (timeoutsReported (s.entriesOf s.expiryDue) s)
  rw [← expirePass_eq, hnoted.opState] at h
  rw [h]
  simp only [activeTags_eq_zero_iff]

/-! ### The lapses of a tick event (R110, R112) -/

/-- The lapses of a tick event. -/
def lapsePass (s : State) : State := (List.finRange 64).foldl (fun s t => lapseTag t s) s

theorem lapsed_lapsed (now : Tick) (x : TagState) : (x.lapsed now).lapsed now = x.lapsed now := by
  cases x with
  | quarantined q =>
    by_cases h : q.limit.toNat ≤ (now - q.startTick).toNat
    · simp only [TagState.lapsed, if_pos h]
    · simp only [TagState.lapsed, if_neg h]
  | free => rfl
  | active r => rfl

/-- A run of lapses changes tags alone, each by the present count. -/
theorem foldl_lapseTag (l : List PoolTag) (s : State) :
    l.foldl (fun s t => lapseTag t s) s = { s with tags := (l.foldl (fun s t => lapseTag t s) s).tags } ∧
      ∀ g, getAt (l.foldl (fun s t => lapseTag t s) s).tags g =
        if g ∈ l then (getAt s.tags g).lapsed s.tick.count else getAt s.tags g := by
  induction l generalizing s with
  | nil => exact ⟨rfl, fun g => by simp⟩
  | cons t l ih =>
    obtain ⟨hrest, htags⟩ := ih (lapseTag t s)
    rw [lapseTag_eq] at hrest htags
    rw [List.foldl_cons, lapseTag_eq]
    refine ⟨hrest, fun g => (htags g).trans ?_⟩
    simp only [getAt_tags_setTag, List.mem_cons]
    by_cases ht : t = g
    · subst ht
      simp [setTag, lapsed_lapsed]
    · simp [setTag, ht, Ne.symm ht]

theorem lapsePass_rest (s : State) : lapsePass s = { s with tags := (lapsePass s).tags } := (foldl_lapseTag _ s).1

theorem lapsePass_keeps (s : State) :
    (lapsePass s).slots = s.slots ∧ (lapsePass s).lists = s.lists ∧ (lapsePass s).rqLink = s.rqLink ∧
      (lapsePass s).tick = s.tick :=
  ⟨foldl_keeps (f := State.slots) (fun s t => by simp) _ s, foldl_keeps (f := State.lists) (fun s t => by simp) _ s,
    foldl_keeps (f := State.rqLink) (fun s t => by simp) _ s, foldl_keeps (f := State.tick) (fun s t => by simp) _ s⟩

theorem getAt_tags_lapsePass (s : State) (g : PoolTag) :
    getAt (lapsePass s).tags g = (getAt s.tags g).lapsed s.tick.count :=
  ((foldl_lapseTag _ s).2 g).trans (if_pos (List.mem_finRange g))

theorem expireAndLapse_eq (s : State) : expireAndLapse s = lapsePass (expirePass s) := rfl

/-- A quarantine that starts now has not run a limit other than 0 (R110). -/
theorem lapsed_abandoned (hlimit : s.quarantineLimit ≠ 0#12) (r : ActiveRec) :
    (s.abandoned r).lapsed s.tick.count = s.abandoned r := by
  have hpos : 0 < s.quarantineLimit.toNat := Nat.pos_of_ne_zero fun h => hlimit (BitVec.eq_of_toNat_eq h)
  refine if_neg ?_
  simp only [BitVec.sub_self, BitVec.toNat_zero]
  omega

end

end Sys2Proof.Machine
end

section
/-! PROOF. The statement of the family: TICK_EVENT expires what is due, ends the quarantines that are due and gives out
the free places. These go to no live entry's segments, so that they change no tag. -/

namespace Sys2Proof.Machine

section

variable {which : ActiveRec → Bool} {st : Status} {dest : ActiveRec → TagState} {g : PoolTag} {r : ActiveRec}
  {l : SlotId} {n : SourceId} {e : Element} {s u v w : State}

/-! ### The places given out (R131) -/

/-- The element at the head of source `n`'s list, if any, belongs to no live entry. -/
def HeadUnlinked (n : SourceId) (s : State) : Prop :=
  ∀ l rest e, getAt s.lists n = l :: rest → getAt s.slots l = some e → e.link = none

/-- What a producer other than the Matcher does to tags, lists and elements when it is given a place: source `n` alone
touches its list, and a live entry's delivered flag is set only where its element is the head. -/
structure GivenPlace (q : Producer) (s u : State) : Prop where
  tags : (∀ n, q = .drain n → HeadUnlinked n s) → u.tags = s.tags
  lists : ∀ n, q ≠ .drain n → getAt u.lists n = getAt s.lists n
  links : ∀ l e, getAt u.slots l = some e → ∃ d, getAt s.slots l = some d ∧ e.link = d.link

theorem GivenPlace.frame {q : Producer} (h : u.tags = s.tags ∧ u.lists = s.lists ∧ u.slots = s.slots := by simp) :
    GivenPlace q s u where
  tags _ := h.1
  lists n _ := by rw [h.2.1]
  links l e he := ⟨e, by rwa [← h.2.2], rfl⟩

theorem markDelivered_of_unlinked (h : e.link = none) (s : State) : markDelivered e s = s := by
  simp only [markDelivered, h]

theorem givenPlace_afterDrain {rest : List SlotId} (hlist : getAt s.lists n = l :: rest)
    (he : getAt s.slots l = some e) (x : Response) :
    GivenPlace (.drain n) s (afterDrain n l e (pushTraffic x s)) := by
  unfold afterDrain
  split
  · refine ⟨fun _ => by simp, fun m hm => ?_, fun k d hd => ?_⟩
    · have hne : n ≠ m := fun h => hm (h ▸ rfl)
      simp [getAt_lists_removeElement, hne]
    · simp only [lowerCount_keeps, getAt_slots_removeElement] at hd
      split at hd
      · exact nomatch hd
      · exact ⟨d, hd, rfl⟩
  · refine ⟨fun hu => ?_, fun m hm => by simp, fun k d hd => ?_⟩
    · rw [markDelivered_of_unlinked (hu n rfl l rest e hlist he)]
      simp
    · simp only [markDelivered_keeps, mapElement, getAt_slots_setSlot, State.element, pushTraffic_keeps] at hd
      split at hd
      · next hk =>
        obtain ⟨c, hc, rfl⟩ := Option.map_eq_some_iff.mp hd
        exact ⟨c, hk ▸ hc, rfl⟩
      · exact ⟨d, hd, rfl⟩

theorem givenPlace_serve {q : Producer} (hq : q ≠ .matcher) (s : State) : GivenPlace q s (serve q s) := by
  cases q with
  | malformedList => exact .frame (u := placeMalformed s)
  | dispatch => exact .frame (u := placeAnswer s)
  | backlog => exact .frame (u := placeBacklog s)
  | matcher => exact absurd rfl hq
  | drain n =>
    show GivenPlace _ s (drainHead n s)
    unfold drainHead State.headSlot State.element
    split
    · exact .frame
    · next l hl =>
      obtain ⟨rest, hlist⟩ := List.head?_eq_some_iff.mp hl
      split
      · exact .frame
      · next e he =>
        split
        · exact .frame
        · exact givenPlace_afterDrain hlist he _

theorem HeadUnlinked.of_givenPlace {q : Producer} (h : HeadUnlinked n s) (hg : GivenPlace q s u) (hq : q ≠ .drain n) :
    HeadUnlinked n u := fun l rest e hlist he => by
  obtain ⟨d, hd, hlink⟩ := hg.links l e he
  exact hlink.trans (h l rest d (hg.lists n hq ▸ hlist) hd)

theorem producerAt_injective : Function.Injective Producer.at := by
  intro a b
  revert a b
  decide +kernel

theorem givenPlace_serveAt {k : Fin 36} (hk : Producer.at k ≠ .matcher) (s : State) :
    GivenPlace (Producer.at k) s (serveAt k s) :=
  have h := givenPlace_serve hk s
  ⟨h.tags, h.lists, h.links⟩

/-- Places given to producers of different positions, and to no live entry's element. -/
theorem tags_of_places {ks : List (Fin 36)} (hks : ks.Nodup) (hm : ∀ k ∈ ks, Producer.at k ≠ .matcher)
    (hu : ∀ k ∈ ks, ∀ n, Producer.at k = .drain n → HeadUnlinked n s) :
    (ks.foldl (fun s k => if s.trafficHasRoom && s.ready (Producer.at k) then serveAt k s else s) s).tags = s.tags := by
  induction ks generalizing s with
  | nil => rfl
  | cons k ks ih =>
    obtain ⟨hk, hks⟩ := List.nodup_cons.mp hks
    have hm' : ∀ j ∈ ks, Producer.at j ≠ .matcher := fun j hj => hm j (List.mem_cons_of_mem k hj)
    have hu' : ∀ j ∈ ks, ∀ n, Producer.at j = .drain n → HeadUnlinked n s :=
      fun j hj => hu j (List.mem_cons_of_mem k hj)
    rw [List.foldl_cons]
    split
    · have hg := givenPlace_serveAt (hm k List.mem_cons_self) s
      refine (ih hks hm' fun j hj n hn => (hu' j hj n hn).of_givenPlace hg fun hkn => ?_).trans
        (hg.tags (hu k List.mem_cons_self))
      exact hk (producerAt_injective (hkn.trans hn.symm) ▸ hj)
    · exact ih hks hm' hu'

theorem nodup_ringFrom (k : Fin 36) : (ringFrom k).Nodup := (List.nodup_finRange 36).map (add_right_injective k)

/-- The places given out change no tag, where a source that the step made drain has a head without a live entry. -/
theorem distribute_tags (h : ∀ n, s.ready (.drain n) = false → v.ready (.drain n) = true → HeadUnlinked n v) :
    (distribute s v).tags = v.tags := by
  refine tags_of_places ((nodup_ringFrom _).filter _) (fun k hk => ?_) fun k hk n hn => ?_
  · exact (madeReady_iff.mp (List.mem_filter.mp hk).2).1
  · obtain ⟨-, hafter, hbefore⟩ := madeReady_iff.mp (List.mem_filter.mp hk).2
    exact h n (hn ▸ hbefore) (hn ▸ hafter)

/-! ### Elements after terminations -/

theorem Terminated.element_cases (h : Terminated which st dest s u) (he : getAt u.slots l = some e) :
    getAt s.slots l = some e ∨ e.link = none := by
  by_cases hex : ∃ g r, getAt s.tags g = .active r ∧ which r = true ∧ r.absorbed = false ∧ r.link = some l
  · obtain ⟨g, r, hr, hw, habs, hl⟩ := hex
    rw [h.failed g r l hr hw habs hl] at he
    obtain ⟨d, -, rfl⟩ := Option.map_eq_some_iff.mp he
    exact .inr rfl
  · refine .inl ((h.kept l fun g r hr hw habs hl => hex ⟨g, r, hr, hw, habs, hl⟩).symm.trans he)

/-- A source that terminations made drain has a failed element at its head. -/
theorem Terminated.headUnlinked (h : Terminated which st dest s u) (hv : v.slots = u.slots ∧ v.lists = s.lists)
    (hw : w.slots = s.slots ∧ w.lists = s.lists ∧ w.rqLink = v.rqLink) (hbefore : w.ready (.drain n) = false)
    (hafter : v.ready (.drain n) = true) : HeadUnlinked n v := fun l rest e hlist he => by
  refine (h.element_cases (hv.1 ▸ he)).resolve_left fun hs => ?_
  obtain ⟨hup, hdrains⟩ := Bool.and_eq_true_iff.mp hafter
  have hw' : w.drains n = true := by
    rw [drains_of_head (hw.2.1 ▸ hv.2 ▸ hlist) (hw.1 ▸ hs), ← drains_of_head hlist he]
    exact hdrains
  simp only [State.ready, hw', hw.2.2, hup, Bool.and_self] at hbefore
  exact nomatch hbefore

/-! ### The tick event, whole -/

theorem tags_expirePass_of_active (hr : getAt s.tags g = .active r) :
    getAt (expirePass s).tags g =
      if r.limit.toNat ≤ (s.tick.count - r.issueTick).toNat then s.abandoned r else .active r := by
  rw [(terminated_expirePass s).tags, (noted_timeoutsReported _ s).tags, hr]
  simp only [expiryDue_iff]

theorem tags_expirePass_of_inactive (h : ∀ r, getAt s.tags g ≠ .active r) :
    getAt (expirePass s).tags g = getAt s.tags g := by
  rw [(terminated_expirePass s).tags, (noted_timeoutsReported _ s).tags]
  split
  · next r hr => exact absurd hr (h r)
  · rfl

theorem expirePass_tick (s : State) : (expirePass s).tick = s.tick := by
  obtain ⟨-, -, -, htick, -⟩ := OnlyEnded.same (terminated_expirePass s).rest
  exact htick.trans (noted_timeoutsReported _ s).tick

/-- No quarantine that a tick event starts ends with it (R110). -/
theorem tags_lapsePass_of_not_quarantined (hlimit : s.quarantineLimit ≠ 0#12)
    (h : ∀ q, getAt s.tags g ≠ .quarantined q) :
    getAt (lapsePass (expirePass s)).tags g = getAt (expirePass s).tags g := by
  rw [getAt_tags_lapsePass, expirePass_tick]
  cases hg : getAt s.tags g with
  | quarantined q => exact absurd hg (h q)
  | free =>
    rw [tags_expirePass_of_inactive (fun r hr => nomatch hg.symm.trans hr), hg]
    rfl
  | active r =>
    rw [tags_expirePass_of_active hg]
    split
    · exact lapsed_abandoned hlimit r
    · rfl

theorem tags_lapsePass_of_quarantined {q : QuarRec} (hq : getAt s.tags g = .quarantined q) :
    getAt (lapsePass (expirePass s)).tags g =
      if q.limit.toNat ≤ (s.tick.count - q.startTick).toNat then .free else .quarantined q := by
  rw [getAt_tags_lapsePass, expirePass_tick, tags_expirePass_of_inactive (fun r hr => nomatch hq.symm.trans hr), hq,
    TagState.lapsed]

/-- The places that a tick event gives out change no tag: a source that its expiries made drain has a failed element at
its head. -/
theorem tags_distribute_tickEvent (hs : u.slots = s.slots ∧ u.lists = s.lists ∧ u.rqLink = s.rqLink) :
    (distribute u (lapsePass (expirePass s))).tags = (lapsePass (expirePass s)).tags := by
  have hterm := terminated_expirePass s
  have hnoted := noted_timeoutsReported (s.entriesOf s.expiryDue) s
  obtain ⟨-, -, -, -, -, hlists, hlink⟩ := OnlyEnded.same hterm.rest
  obtain ⟨hslots', hlists', hlink', -⟩ := lapsePass_keeps (expirePass s)
  exact distribute_tags fun n => hterm.headUnlinked ⟨hslots', hlists'.trans hlists⟩
    ⟨hs.1.trans hnoted.slots.symm, hs.2.1.trans hnoted.lists.symm,
      hs.2.2.trans (hnoted.rqLink.symm.trans (hlink'.trans hlink).symm)⟩

end

theorem underflow_of_run {t : TickGen} (h : t.run = true) :
    t.underflow = {
      prescale := (t.pendingPeriod.getD (t.prescale, t.reload)).1
      reload := (t.pendingPeriod.getD (t.prescale, t.reload)).2
      pendingPeriod := none
      downCounter := (t.pendingPeriod.getD (t.prescale, t.reload)).2
      run := true, count := t.count + 1#16, division := 0 } := by
  rw [← h]
  rfl

/-- Settles O15: the expiries as `Terminated` says, the lapses tag by tag, and the places given out, which change no
tag. -/
theorem tickEventExpiresAndLapses : Obligations.TickEventExpiresAndLapses := by
  intro s hlimit
  refine ⟨exec_tickEvent_of_not_due, ?_⟩
  intro hrun hzero now due s1
  have hs1 : { s with tick := s.tick.underflow } = s1 := by rw [underflow_of_run hrun]
  have hevent : tickEvent s = distribute s (lapsePass (expirePass s1)) := by
    rw [← hs1, tickEvent, expireAndLapse_eq]
  have htags : (distribute s (lapsePass (expirePass s1))).tags = (lapsePass (expirePass s1)).tags :=
    tags_distribute_tickEvent ⟨rfl, rfl, rfl⟩
  have hstays {g : PoolTag} (h : ∀ q, getAt s.tags g ≠ .quarantined q) :
      getAt (lapsePass (expirePass s1)).tags g = getAt (expirePass s1).tags g :=
    tags_lapsePass_of_not_quarantined (s := s1) hlimit h
  have hlapses {g : PoolTag} {q : QuarRec} (hq : getAt s.tags g = .quarantined q) :
      getAt (lapsePass (expirePass s1)).tags g =
        if q.limit.toNat ≤ (now - q.startTick).toNat then .free else .quarantined q :=
    tags_lapsePass_of_quarantined (s := s1) hq
  have hexpires {g : PoolTag} {r : ActiveRec} (hr : getAt s.tags g = .active r) :
      getAt (distribute s (lapsePass (expirePass s1))).tags g =
        if r.limit.toNat ≤ (now - r.issueTick).toNat then s1.abandoned r else .active r := by
    rw [htags, hstays fun q hq => nomatch hr.symm.trans hq]
    exact tags_expirePass_of_active (s := s1) hr
  refine ⟨expirePass s1, lapsePass (expirePass s1), distribute s (lapsePass (expirePass s1)), terminated_expirePass s1,
    opState_expirePass s1, lapsePass_rest _, fun g => hstays, fun g q => hlapses, rfl, ?_, ?_, fun g r hr hle => ?_,
    fun g r hr hlt => ?_, fun g q hq => ?_, fun g hg => ?_, ?_⟩
  · rw [exec_tickEvent_of_due hrun hzero, hevent]
  · obtain ⟨-, -, -, htick⟩ := lapsePass_keeps (expirePass s1)
    exact (tame_distribute s _).tick.trans (htick.trans (expirePass_tick s1))
  · rw [hexpires hr, if_pos hle]
    rfl
  · rw [hexpires hr, if_neg (Nat.not_le.mpr hlt)]
  · rw [htags, hlapses hq]
  · rw [htags, hstays fun q hq => nomatch hg.symm.trans hq]
    exact (tags_expirePass_of_inactive (s := s1) fun r hr => nomatch hg.symm.trans hr).trans hg
  · rw [← hevent]
    exact (confined_tickEvent s).toSameSettings

end Sys2Proof.Machine
end

section
/-! PROOF. The two ports: LINK UP, and the packets that arrive, from the framing byte to the queue they join. -/

namespace Sys2Proof.Machine

section

variable {s u : State}

/-! ### Framing, credits and the links (R117, R118, R121, R123) -/

/-- The framing byte names a pool in its two low copies alone (R118). -/
theorem framedPool_eq (b : BitVec 8) :
    framedPool b = if b.toNat % 16 = 5 then some .ordinary else if b.toNat % 16 = 10 then some .management
      else if b.toNat % 16 = 15 then some .ret else none := by
  revert b; decide +kernel

theorem returnRsCredits_eq (n : Nat) (s : State) : returnRsCredits n s = { s with rsWire := s.rsSent n } := by
  unfold returnRsCredits State.rsSent
  split <;> rfl

theorem exec_rqLinkDown_of_up (hup : s.rqLink = .up) : exec .rqLinkDown s = .next (rqDown s) :=
  congrArg Host.Outcome.next (if_pos hup)

theorem exec_rsLinkDown_of_up (hup : s.rsLink = .up) : exec .rsLinkDown s = .next (rsDown s) :=
  congrArg Host.Outcome.next (if_pos hup)

/-- A framing failure is a LINK DOWN with a restart of the link (R118). -/
theorem rqFramingFailure_of_up (hup : s.rqLink = .up) :
    ∃ t, exec .rqLinkDown s = .next t ∧ rqFramingFailure s = { t with rqWire := t.rqWire ++ [.restart] } :=
  ⟨rqDown s, exec_rqLinkDown_of_up hup, rfl⟩

theorem rsFramingFailure_of_up (hup : s.rsLink = .up) :
    ∃ t, exec .rsLinkDown s = .next t ∧ rsFramingFailure s = { t with rsWire := t.rsWire ++ [.restart] } :=
  ⟨rsDown s, exec_rsLinkDown_of_up hup, rfl⟩

end

/-- Settles O7. -/
theorem linkUpReturnsCredits : Obligations.LinkUpReturnsCredits := by
  intro s
  refine ⟨fun hup => congrArg Host.Outcome.next (if_pos hup), fun hdown => congrArg Host.Outcome.next ?_,
    fun hup => congrArg Host.Outcome.next (if_pos hup), fun hdown => congrArg Host.Outcome.next ?_⟩
  · rw [if_neg (by simp [hdown]), rqUp, returnRqCredits_eq, returnRqCredits_eq]
    rfl
  · rw [if_neg (by simp [hdown]), rsUp, returnRsCredits_eq]
    rfl

section

variable {framing : BitVec 8} {words : List Word} {check : BitVec 16} {p : PoolCode} {r : Request} {s u : State}

/-! ### RQ_ARRIVAL up to the kind check (R118 to R125) -/

/-- A packet whose framing names a pool of the RQ port goes on to that pool's credit check. -/
theorem exec_rqArrival_of_pool (hup : s.rqLink = .up)
    (hp : (p = .ordinary ∧ framing.toNat % 16 = 5) ∨ (p = .management ∧ framing.toNat % 16 = 10)) :
    exec (.rqArrival framing words check) s = .next (admitRq p words check s) := by
  show execRqArrival framing words check s = _
  obtain ⟨rfl, hf⟩ | ⟨rfl, hf⟩ := hp
  · simp [execRqArrival, hup, framedPool_eq, hf]
  · simp [execRqArrival, hup, framedPool_eq, hf]

theorem exec_rqArrival_of_no_pool (hup : s.rqLink = .up) (h5 : framing.toNat % 16 ≠ 5)
    (h10 : framing.toNat % 16 ≠ 10) :
    exec (.rqArrival framing words check) s = .next (rqFramingFailure s) := by
  show execRqArrival framing words check s = _
  by_cases h15 : framing.toNat % 16 = 15
  · simp [execRqArrival, hup, framedPool_eq, h15]
  · simp [execRqArrival, hup, framedPool_eq, h5, h10, h15]

theorem admitRq_of_overrun (p : PoolCode) (h : s.rqFree p = 0) :
    admitRq p words check s = report .creditOverrunRq (some .rq) Ident.none s := if_pos h

theorem RqAdmitted.named (h : RqAdmitted s framing words check p) :
    (p = .ordinary ∧ framing.toNat % 16 = 5) ∨ (p = .management ∧ framing.toNat % 16 = 10) :=
  h.pool.imp (fun h => ⟨h.1, h.2.1⟩) fun h => ⟨h.1, h.2.1⟩

theorem RqAdmitted.rqFree_ne_zero (h : RqAdmitted s framing words check p) : s.rqFree p ≠ 0 := by
  obtain ⟨rfl, -, hfree⟩ | ⟨rfl, -, hfree⟩ := h.pool
  · simp only [State.rqFree, State.ordinaryFree, Config.ordinarySlots]; omega
  · simp only [State.rqFree, State.managementFree, Config.managementSlots]; omega

/-- An admitted packet reaches the kind check (R125). -/
theorem RqAdmitted.exec_eq (h : RqAdmitted s framing words check p) :
    exec (.rqArrival framing words check) s = .next (takeRqPacket p words s) := by
  rw [exec_rqArrival_of_pool h.up h.named, admitRq, if_neg h.rqFree_ne_zero, if_pos h.check]

/-! ### The header of a request (R187, R189) -/

theorem headerSource_eq (w : Word) : headerSource w = Fin.ofNat 32 (w.toNat / 2 ^ 23) :=
  Fin.ext (toNat_extract w 23 5)

theorem headerTag_eq (w : Word) : headerTag w = BitVec.ofNat 8 (w.toNat / 2 ^ 15) :=
  BitVec.eq_of_toNat_eq (by rw [headerTag, toNat_extract, BitVec.toNat_ofNat])

/-- The kind field fills the word's top. -/
theorem toNat_headerKind (w : Word) : (headerKind w).toNat = w.toNat / 2 ^ 28 := by
  have hw : w.toNat < 2 ^ 32 := w.isLt
  rw [headerKind, toNat_extract]
  omega

theorem reqKind_ofCode_eq_none {c : BitVec 4} (h : c.toNat = 0 ∨ 3 < c.toNat) : ReqKind.ofCode c = none := by
  revert c; decide

theorem reqKind_ofCode_eq_some {c : BitVec 4} {k : ReqKind}
    (h : c.toNat = match k with | .read => 1 | .write => 2 | .cwrite => 3) : ReqKind.ofCode c = some k := by
  revert c; cases k <;> decide

theorem failKind_cons (p : PoolCode) (w0 : Word) (more : List Word) (s : State) :
    failKind p (w0 :: more) s = report .malformedRequest (some .rq)
      { source := some (Fin.ofNat 32 (w0.toNat / 2 ^ 23)), tag := some (BitVec.ofNat 8 (w0.toNat / 2 ^ 15)),
        pool := none, kind := none, address := none }
      { s with rqWire := s.rqSent (returnByte p) 1 } := by
  rw [← returnRqCredits_eq, ← headerSource_eq, ← headerTag_eq]
  rfl

/-- A packet without three header words, or of no request's kind, fails the kind check (R125, R187). -/
theorem takeRqPacket_of_no_kind {w0 : Word} {more : List Word} (p : PoolCode)
    (h : more.length < 2 ∨ w0.toNat / 2 ^ 28 = 0 ∨ 3 < w0.toNat / 2 ^ 28) (s : State) :
    takeRqPacket p (w0 :: more) s = failKind p (w0 :: more) s := by
  rw [← toNat_headerKind] at h
  match more with
  | [] => rfl
  | [_] => rfl
  | _ :: _ :: _ =>
    have hnone := reqKind_ofCode_eq_none (h.resolve_left (by simp))
    simp [takeRqPacket, hnone]

/-- What the header words of a carried request are parsed to (R189). -/
theorem takeRqPacket_of_carries (h : CarriesRequest words r) (p : PoolCode) (s : State) :
    takeRqPacket p words s = if r.malformed p = true then takeMalformed r p s else sortRequest r p s := by
  obtain ⟨w0, w1, w2, rfl, hkind, hsource, htag, hordered, hpoison, hover, hclass, hlen, haddr⟩ := h
  have hk : ReqKind.ofCode (headerKind w0) = some r.kind :=
    reqKind_ofCode_eq_some ((toNat_headerKind w0).trans hkind)
  have hparse : parseRequest r.kind w0 w1 w2 r.payload = r := by
    have hs : headerSource w0 = r.source := Fin.ext ((toNat_extract w0 23 5).trans hsource)
    have ht : headerTag w0 = r.tag := BitVec.eq_of_toNat_eq ((toNat_extract w0 15 8).trans htag)
    have hl : (w0.extractLsb' 0 7).toNat = r.length := by
      rw [toNat_extract, Nat.pow_zero, Nat.div_one]
      exact hlen
    have ha : (w1.extractLsb' 0 8 ++ w2 : BitVec 40) = r.address := BitVec.eq_of_toNat_eq (by
      rw [toNat_append_eq_add, toNat_extract, Nat.pow_zero, Nat.div_one]
      exact haddr)
    have ho : (if w0.getLsbD 12 then some (w0.extractLsb' 10 2).toFin else none) = r.override := by
      rw [hover]
      cases hc : r.override with
      | none => rfl
      | some c => exact congrArg some (Fin.ext ((toNat_extract w0 10 2).trans (hclass c hc)))
    simp only [parseRequest, hs, ht, hl, ha, ho, hordered, hpoison]
  simp only [takeRqPacket, hk, hparse]

theorem inAperture_iff (a : Address) : inAperture a = true ↔ 0xFFFFFF0000 ≤ a.toNat := decide_eq_true_iff

theorem malformed_iff (r : Request) (p : PoolCode) : r.malformed p = true ↔ Malformed r p := by
  have hbelow : inAperture r.address = false ↔ r.address.toNat < 0xFFFFFF0000 := by
    rw [← Bool.not_eq_true, inAperture_iff, Nat.not_le]
  simp only [Request.malformed, Malformed, Bool.or_eq_true, Bool.and_eq_true, Bool.not_eq_true', decide_eq_true_eq,
    inAperture_iff, hbelow, List.isEmpty_eq_false_iff, or_assoc]

end

/-- Settles O10, check by check. -/
theorem rqArrivalStoppedAtThePort : Obligations.RqArrivalStoppedAtThePort := by
  intro framing words check s
  refine ⟨fun hdown => congrArg Host.Outcome.next (if_pos hdown), fun hup h5 h10 => ?framing,
    fun hup hfull => ?credit, fun p h hne => ?check, fun p w0 more h hw hkind => ?kind, fun p h hw => ?empty⟩
  case framing =>
    obtain ⟨t, hdown, hfail⟩ := rqFramingFailure_of_up hup
    exact ⟨t, hdown, by rw [exec_rqArrival_of_no_pool hup h5 h10, hfail]⟩
  case credit =>
    obtain ⟨hf, hfull⟩ | ⟨hf, hfull⟩ := hfull
    · rw [exec_rqArrival_of_pool hup (.inl ⟨rfl, hf⟩), admitRq_of_overrun .ordinary (Nat.sub_eq_zero_of_le hfull)]
    · rw [exec_rqArrival_of_pool hup (.inr ⟨rfl, hf⟩), admitRq_of_overrun .management (Nat.sub_eq_zero_of_le hfull)]
  case check =>
    rw [exec_rqArrival_of_pool h.up h.named, admitRq, if_neg h.rqFree_ne_zero, if_neg hne, returnRqCredits_eq]
  case kind =>
    subst hw
    rw [h.exec_eq, takeRqPacket_of_no_kind p hkind, failKind_cons]
  case empty =>
    subst hw
    rw [h.exec_eq, ← returnRqCredits_eq]
    rfl

section

variable {framing : BitVec 8} {words : List Word} {check : BitVec 16} {p : PoolCode} {r : Request} {s u : State}

/-! ### Malformed and well-formed requests (R126 to R128) -/

theorem RqAdmitted.exec_of_malformed (h : RqAdmitted s framing words check p) (hc : CarriesRequest words r)
    (hm : Malformed r p) : exec (.rqArrival framing words check) s = .next (takeMalformed r p s) := by
  rw [h.exec_eq, takeRqPacket_of_carries hc, if_pos ((malformed_iff r p).mpr hm)]

theorem RqAdmitted.exec_of_wellFormed (h : RqAdmitted s framing words check p) (hc : CarriesRequest words r)
    (hm : ¬Malformed r p) : exec (.rqArrival framing words check) s = .next (sortRequest r p s) := by
  rw [h.exec_eq, takeRqPacket_of_carries hc, if_neg (mt (malformed_iff r p).mp hm)]

theorem answerMalformed_of_room (hl : s.malformedList = []) (hroom : s.trafficQueue.length < 32) :
    answerMalformed r p s = queued r.source r.tag (.fail .malformed) { s with rqWire := s.rqSent (returnByte p) 1 } := by
  rw [answerMalformed, if_pos (Bool.and_eq_true_iff.mpr ⟨List.isEmpty_iff.mpr hl, (trafficHasRoom_iff s).mpr hroom⟩),
    returnRqCredits_eq]
  rfl

theorem answerMalformed_of_wait (h : s.malformedList ≠ [] ∨ 32 ≤ s.trafficQueue.length) :
    answerMalformed r p s =
      { s with malformedList := s.malformedList ++ [{ dest := r.source, tag := r.tag, pool := p }] } := by
  refine if_neg fun hc => ?_
  obtain ⟨hl, hroom⟩ := Bool.and_eq_true_iff.mp hc
  exact h.elim (fun hn => hn (List.isEmpty_iff.mp hl)) (Nat.not_le.mpr ((trafficHasRoom_iff s).mp hroom))

theorem joinForward_of_kept (h : s.opState ≠ .halted ∨ r.kind ≠ .write) :
    joinForward r s =
      { s with forwardQueue := s.forwardQueue ++ [{ req := r, mark := decide (s.opState = .halted) }] } :=
  if_neg fun ⟨ho, hk⟩ => h.elim (· ho) (· hk)

theorem joinForward_of_discarded (ho : s.opState = .halted) (hk : r.kind = .write) :
    joinForward r s =
      returnRqCredits .ordinary 1 (report .discardedWrite (some .rq) (headerIdent r) s) :=
  if_pos ⟨ho, hk⟩

theorem takeMalformed_of_answered (hk : r.kind ≠ .write) :
    takeMalformed r p s = answerMalformed r p (report .malformedRequest (some .rq) (headerIdent r) s) := if_neg hk

end

/-- Settles O11. -/
theorem malformedRequestIsAnswered : Obligations.MalformedRequestIsAnswered := by
  intro framing words check p r s h hc hm u
  have hlist : u.malformedList = s.malformedList := by simp [u]
  have htraffic : u.trafficQueue = s.trafficQueue := by simp [u]
  rw [h.exec_of_malformed hc hm]
  refine ⟨fun hk => congrArg Host.Outcome.next ?_, fun hk hl hroom => ?_, fun hk hwait => ?_⟩
  · rw [← returnRqCredits_eq]
    exact if_pos hk
  · rw [takeMalformed_of_answered hk, answerMalformed_of_room (hlist.trans hl) (htraffic ▸ hroom)]
  · rw [takeMalformed_of_answered hk, answerMalformed_of_wait (by rwa [hlist, htraffic]), hlist]

/-- Settles O12. -/
theorem wellFormedRequestIsSorted : Obligations.WellFormedRequestIsSorted := by
  intro framing words check p r s h hc hm
  rw [h.exec_of_wellFormed hc hm]
  refine ⟨fun hp => congrArg Host.Outcome.next (if_pos hp), fun hp hjoin => congrArg Host.Outcome.next ?_,
    fun hp ho hk => congrArg Host.Outcome.next ?_⟩
  · rw [sortRequest, if_neg (by simp [hp]), joinForward_of_kept hjoin]
  · rw [sortRequest, if_neg (by simp [hp]), joinForward_of_discarded ho hk, returnRqCredits_eq]
    rfl

section

variable {framing : BitVec 8} {words data : List Word} {check : BitVec 16} {w0 : Word} {p : Arrived} {s : State}

/-! ### RS_ARRIVAL (R129) -/

theorem exec_rsArrival_of_ret (hup : s.rsLink = .up) (hf : framing.toNat % 16 = 15) :
    exec (.rsArrival framing words check) s = .next (admitRs words check s) := by
  show execRsArrival framing words check s = _
  simp [execRsArrival, hup, framedPool_eq, hf]

theorem exec_rsArrival_of_no_ret (hup : s.rsLink = .up) (hf : framing.toNat % 16 ≠ 15) :
    exec (.rsArrival framing words check) s = .next (rsFramingFailure s) := by
  show execRsArrival framing words check s = _
  by_cases h5 : framing.toNat % 16 = 5
  · simp [execRsArrival, hup, framedPool_eq, h5]
  · by_cases h10 : framing.toNat % 16 = 10
    · simp [execRsArrival, hup, framedPool_eq, h10]
    · simp [execRsArrival, hup, framedPool_eq, h5, h10, hf]

theorem returnFree_eq_zero_iff (s : State) : s.returnFree = 0 ↔ 16 ≤ s.ingress.length := Nat.sub_eq_zero_iff_le

theorem headerCount_eq (w : Word) : headerCount w = w.toNat % 32 := by
  rw [headerCount, toNat_extract, Nat.pow_zero, Nat.div_one]
  rfl

theorem respKind_ofCode_eq_none {c : BitVec 4} (h : c.toNat < 8 ∨ 10 < c.toNat) : RespKind.ofCode c = none := by
  revert c; decide

theorem respKind_ofCode_eq_some_iff {c : BitVec 4} {k : RespKind} :
    RespKind.ofCode c = some k ↔ c.toNat = match k with | .data => 8 | .done => 9 | .fail => 10 := by
  revert c; cases k <;> decide

/-- The format checks of a response of a known kind, on the header word as a number (R129). -/
theorem responseMalformed_iff {k : RespKind} {far : SourceId} :
    responseMalformed k w0 data far = true ↔
      (k = .data ∧ (w0.toNat % 32 = 0 ∨ 16 < w0.toNat % 32)) ∨ (k ≠ .data ∧ w0.toNat % 32 ≠ 0) ∨
        data.length ≠ w0.toNat % 32 ∨ w0.toNat / 2 ^ 23 % 32 ≠ far.val := by
  have hsource : headerSource w0 ≠ far ↔ w0.toNat / 2 ^ 23 % 32 ≠ far.val := by
    rw [headerSource_eq, ne_eq, Fin.ext_iff, Fin.val_ofNat]
  cases k <;> simp [responseMalformed, headerCount_eq, hsource, or_assoc]

theorem takeRsPacket_of_failed
    (h : (w0.toNat / 2 ^ 28 < 8 ∨ 10 < w0.toNat / 2 ^ 28) ∨
      (w0.toNat / 2 ^ 28 = 8 ∧ (w0.toNat % 32 = 0 ∨ 16 < w0.toNat % 32)) ∨
      (w0.toNat / 2 ^ 28 ≠ 8 ∧ w0.toNat % 32 ≠ 0) ∨
      data.length ≠ w0.toNat % 32 ∨ w0.toNat / 2 ^ 23 % 32 ≠ s.farSource.val) :
    takeRsPacket (w0 :: data) s = failFormat (w0 :: data) s := by
  simp only [← toNat_headerKind] at h
  unfold takeRsPacket
  dsimp only
  cases hk : RespKind.ofCode (headerKind w0) with
  | none => rfl
  | some k =>
    have hcode := respKind_ofCode_eq_some_iff.mp hk
    refine if_pos (responseMalformed_iff.mpr ?_)
    rw [hcode] at h
    cases k <;> simpa using h

theorem failFormat_eq (s : State) :
    failFormat (w0 :: data) s = report .malformedResponse (some .rs)
      { Ident.none with pool :=
          if h : w0.toNat / 2 ^ 15 % 256 < 64 then some ⟨w0.toNat / 2 ^ 15 % 256, h⟩ else none }
      { s with rsWire := s.rsSent 1 } := by
  have htag : (headerTag w0).toNat = w0.toNat / 2 ^ 15 % 256 := toNat_extract w0 15 8
  rw [← returnRsCredits_eq]
  simp only [failFormat, htag]

theorem takeRsPacket_of_carries (h : CarriesResponse words p p.data.length) (hd : p.dest = s.farSource)
    (hn : (p.kind = .data ∧ 1 ≤ p.data.length ∧ p.data.length ≤ 16) ∨ (p.kind ≠ .data ∧ p.data = [])) :
    takeRsPacket words s = { s with ingress := s.ingress ++ [p] } := by
  obtain ⟨w0, rfl, hkind, hdest, htag, hstatus, hlast, hpoison, hcount⟩ := h
  have hk : RespKind.ofCode (headerKind w0) = some p.kind :=
    respKind_ofCode_eq_some_iff.mpr ((toNat_headerKind w0).trans hkind)
  have hparse : parseResponse p.kind w0 p.data = p := by
    have hs : headerSource w0 = p.dest := Fin.ext ((toNat_extract w0 23 5).trans hdest)
    have ht : headerTag w0 = p.tag := BitVec.eq_of_toNat_eq ((toNat_extract w0 15 8).trans htag)
    have hst : w0.extractLsb' 11 4 = p.status := BitVec.eq_of_toNat_eq ((toNat_extract w0 11 4).trans hstatus)
    simp only [parseResponse, hs, ht, hst, hlast, hpoison]
  have hfine : ¬responseMalformed p.kind w0 p.data s.farSource = true := by
    rw [responseMalformed_iff, hcount, hdest, hd]
    obtain ⟨hk, h1, h16⟩ | ⟨hk, hnil⟩ := hn
    · simp [hk, Nat.not_lt.mpr h16, List.ne_nil_of_length_pos h1]
    · simp [hk, hnil]
  simp only [takeRsPacket, hk, hparse, hfine, if_false, Bool.false_eq_true]

end

/-- Settles O13, check by check. -/
theorem responseArrival : Obligations.ResponseArrival := by
  intro framing words check s
  refine ⟨fun hdown => congrArg Host.Outcome.next (if_pos hdown), fun hup hf => ?framing,
    fun hup hf hfull => ?credit, fun hup hf hfree => ?admitted⟩
  case framing =>
    obtain ⟨t, hdown, hfail⟩ := rsFramingFailure_of_up hup
    exact ⟨t, hdown, by rw [exec_rsArrival_of_no_ret hup hf, hfail]⟩
  case credit =>
    rw [exec_rsArrival_of_ret hup hf, admitRs, if_pos ((returnFree_eq_zero_iff s).mpr hfull)]
  case admitted =>
    have hslot : ¬s.returnFree = 0 := mt (returnFree_eq_zero_iff s).mp (Nat.not_le.mpr hfree)
    have hexec (hc : checkWord words = check) :
        exec (.rsArrival framing words check) s = .next (takeRsPacket words s) := by
      rw [exec_rsArrival_of_ret hup hf, admitRs, if_neg hslot, if_pos hc]
    refine ⟨fun hne => ?_, fun hc hw => ?_, fun w0 data hc hw hbad => ⟨fun hlarge => ?_, fun g hg => ?_⟩,
      fun p hc hp hd hn => ?_⟩
    · rw [exec_rsArrival_of_ret hup hf, admitRs, if_neg hslot, if_neg hne, returnRsCredits_eq]
    · rw [hexec hc, hw, ← returnRsCredits_eq]
      rfl
    · rw [hexec hc, hw, takeRsPacket_of_failed hbad, failFormat_eq, dif_neg (Nat.not_lt.mpr hlarge)]
      rfl
    · rw [hexec hc, hw, takeRsPacket_of_failed hbad, failFormat_eq, dif_pos (hg ▸ g.isLt)]
      simp only [← hg]
    · rw [hexec hc, takeRsPacket_of_carries hp hd hn]

end Sys2Proof.Machine
end

section
/-! PROOF. Transmit credits, the arbiter's choice, and the words and the check word of the packets that the bridge
sends. -/

namespace Sys2Proof.Machine

section

variable {byte : BitVec 8} {s u : State}

/-! ### Credit-return indications (R122, R123) -/

theorem exec_rqCredit_of_ret (hup : s.rqLink = .up) (hb : byte.toNat % 16 = 15) :
    exec (.creditReturnIndication .rq byte) s = .next { s with rqCredits := moreCredits s.rqCredits } := by
  show execCreditReturnIndication .rq byte s = _
  simp [execCreditReturnIndication, hup, framedPool_eq, hb]

theorem exec_rqCredit_of_no_ret (hup : s.rqLink = .up) (hb : byte.toNat % 16 ≠ 15) :
    exec (.creditReturnIndication .rq byte) s = .next (rqFramingFailure s) := by
  have hpool : framedPool byte ≠ some .ret := by
    rw [framedPool_eq]
    split_ifs <;> simp
  show execCreditReturnIndication .rq byte s = _
  simp [execCreditReturnIndication, hup, hpool]

theorem exec_rsCredit_of_ordinary (hup : s.rsLink = .up) (hb : byte.toNat % 16 = 5) :
    exec (.creditReturnIndication .rs byte) s =
      .next (issueAfter s { s with rsCredits := moreCredits s.rsCredits }) := by
  show execCreditReturnIndication .rs byte s = _
  simp [execCreditReturnIndication, hup, framedPool_eq, hb]

theorem exec_rsCredit_of_no_ordinary (hup : s.rsLink = .up) (hb : byte.toNat % 16 ≠ 5) :
    exec (.creditReturnIndication .rs byte) s = .next (rsFramingFailure s) := by
  have hpool : framedPool byte ≠ some .ordinary := by
    rw [framedPool_eq, if_neg hb]
    split_ifs <;> simp
  show execCreditReturnIndication .rs byte s = _
  simp [execCreditReturnIndication, hup, hpool]

/-- Only a first credit is a resource that a waiting head can lack (R37). -/
theorem issuable_setRsCredits {n : Nat} (hn : n = 0 ↔ s.rsCredits = 0) :
    ({ s with rsCredits := n } : State).issuable = s.issuable := by
  have hgrant (c : Classified) : ({ s with rsCredits := n } : State).grant c = s.grant c := by
    simp only [State.grant, hn]
    rfl
  simp only [State.issuable, hgrant]

theorem issueAfter_setRsCredits {n : Nat} (hn : n = 0 ↔ s.rsCredits = 0) :
    issueAfter s { s with rsCredits := n } = { s with rsCredits := n } := by
  unfold issueAfter
  split
  · next hc =>
    refine issueNow_of_not_issuable ((issuable_setRsCredits hn).trans ?_)
    exact Option.isNone_iff_eq_none.mp (Bool.and_eq_true_iff.mp hc).2
  · rfl

theorem not_issuable_of_no_credit (h : s.rsCredits = 0) : s.issuable = none := by
  refine Option.eq_none_iff_forall_ne_some.mpr fun ⟨q, c, g⟩ hi => ?_
  obtain ⟨-, -, -, -, -, -, -, -, hg⟩ := issuable_eq_some_iff.mp hi
  simp [State.grant, h] at hg

theorem not_issuable_of_empty (h : s.forwardQueue = []) : s.issuable = none := by
  refine Option.eq_none_iff_forall_ne_some.mpr fun ⟨q, c, g⟩ hi => ?_
  obtain ⟨w, rest, hq, -⟩ := issuable_eq_some_iff.mp hi
  exact nomatch h.symm.trans hq

end

/-- Settles O14. The head that a first credit sets free could not be issued before, so that O25 says what the end of the
step does with it. -/
theorem creditReturnIndications : Obligations.CreditReturnIndications := by
  intro byte s
  refine ⟨fun hdown => congrArg Host.Outcome.next (if_pos hdown), fun hup hb => exec_rqCredit_of_ret hup hb,
    fun hup hb => ?rqFraming, fun hdown => congrArg Host.Outcome.next (if_pos hdown),
    fun hup hb => ⟨fun hidle => ?kept, fun c hzero hp => ?first⟩, fun hup hb => ?rsFraming⟩
  case rqFraming =>
    obtain ⟨t, hdown, hfail⟩ := rqFramingFailure_of_up hup
    exact ⟨t, hdown, by rw [exec_rqCredit_of_no_ret hup hb, hfail]⟩
  case rsFraming =>
    obtain ⟨t, hdown, hfail⟩ := rsFramingFailure_of_up hup
    exact ⟨t, hdown, by rw [exec_rsCredit_of_no_ordinary hup hb, hfail]⟩
  case kept =>
    rw [exec_rsCredit_of_ordinary hup hb]
    refine congrArg Host.Outcome.next (hidle.elim (fun hne => issueAfter_setRsCredits ?_)
      (releasedResourceIssuesHead s _).1)
    simp only [moreCredits, hne, iff_false]
    split <;> omega
  case first =>
    rw [exec_rsCredit_of_ordinary hup hb]
    obtain ⟨hissue, hplain⟩ := exec_issue_of_not_issuable (not_issuable_of_no_credit hzero)
    by_cases hq : s.forwardQueue = []
    · have hnone (n : Nat) : ({ s with rsCredits := n } : State).issuable = none := not_issuable_of_empty hq
      obtain ⟨hissue', hplain'⟩ := exec_issue_of_not_issuable (hnone (moreCredits s.rsCredits))
      have hself : issueAfter s { s with rsCredits := moreCredits s.rsCredits } =
          { s with rsCredits := moreCredits s.rsCredits } := by
        unfold issueAfter
        rw [issueNow_of_not_issuable (hnone _), ite_self]
      rw [hself]
      split
      · exact hplain'.symm
      · exact hissue'.symm
    · obtain ⟨-, -, -, hhead⟩ := releasedResourceIssuesHead s { s with rsCredits := moreCredits s.rsCredits }
      exact (hhead c hq hp hp hissue hplain).symm

section

variable {s : State} {r : Response} {rest : List Response} {a : Alert}

/-! ### The arbiter's choice (R132) -/

theorem exec_transmitStep_of_credit (hup : s.rqLink = .up) (hc : 0 < s.rqCredits) :
    exec .transmitStep s = .next (issueAfter s (transmit s)) := congrArg Host.Outcome.next (if_pos ⟨hup, hc⟩)

theorem sendRq_eq (words : List Word) (s : State) : sendRq words s = responseSent words s := rfl

theorem transmit_of_alert {c : Severity} (h : s.alert.nextAlert = some (c, a)) :
    transmit s = responseSent (packAlert a) { s with alert := s.alert.sent c } := by
  simp only [transmit, h, sendRq_eq]

theorem nextAlert_eq_none (hf : s.alert.fatal.slot = none) (hn : s.alert.nonfatal.slot = none)
    (ha : s.alert.advisory.slot = none) : s.alert.nextAlert = none := by
  simp [AlertUnit.nextAlert, hf, hn, ha]

theorem transmit_of_answer (hn : s.alert.nextAlert = none) (hm : s.mgmtSlots = r :: rest) :
    transmit s = responseSent (packResponse r) { s with mgmtSlots := rest } := by
  simp only [transmit, hn, hm, sendRq_eq]

theorem transmit_of_traffic (hn : s.alert.nextAlert = none) (hm : s.mgmtSlots = []) (ht : s.trafficQueue = r :: rest) :
    transmit s =
      if s.trafficHasRoom = true then responseSent (packResponse r) { s with trafficQueue := rest }
      else givePlace (responseSent (packResponse r) { s with trafficQueue := rest }) := by
  simp only [transmit, hn, hm, transmitTraffic, ht, sendRq_eq]

theorem transmit_of_nothing (hn : s.alert.nextAlert = none) (hm : s.mgmtSlots = []) (ht : s.trafficQueue = []) :
    transmit s = s := by
  simp only [transmit, hn, hm, transmitTraffic, ht]

end

/-- Settles O35, along the arbiter's order. A packet that leaves frees no resource of a waiting head. -/
theorem transmitStepChoosesOnePacket : Obligations.TransmitStepChoosesOnePacket := by
  intro s
  refine ⟨fun hno => congrArg Host.Outcome.next (if_neg ?_), fun hup hc => ?_⟩
  · rintro ⟨hup, hc⟩
    exact hno.elim (fun hdown => nomatch hup.symm.trans hdown) fun hzero => Nat.ne_of_gt hc hzero
  · have hexec := exec_transmitStep_of_credit hup hc
    have hquiet (words : List Word) (m t : List Response) (a : AlertUnit) :
        issueAfter s (responseSent words { s with mgmtSlots := m, trafficQueue := t, alert := a }) =
          responseSent words { s with mgmtSlots := m, trafficQueue := t, alert := a } :=
      issueAfter_eq rfl rfl rfl rfl rfl rfl rfl rfl
    refine ⟨fun a hf => ?_, fun a hf hn => ?_, fun a hf hn ha => ?_, fun hf hn ha =>
      ⟨fun r rest hm => ?_, fun r rest hm ht hroom => ?_, fun hm ht => ?_⟩⟩
    · rw [hexec, transmit_of_alert (c := .fatal) (a := a) (by simp [AlertUnit.nextAlert, hf])]
      exact congrArg Host.Outcome.next (hquiet _ _ _ _)
    · rw [hexec, transmit_of_alert (c := .nonfatal) (a := a) (by simp [AlertUnit.nextAlert, hf, hn])]
      exact congrArg Host.Outcome.next (hquiet _ _ _ _)
    · rw [hexec, transmit_of_alert (c := .advisory) (a := a) (by simp [AlertUnit.nextAlert, hf, hn, ha])]
      exact congrArg Host.Outcome.next (hquiet _ _ _ _)
    · rw [hexec, transmit_of_answer (nextAlert_eq_none hf hn ha) hm]
      exact congrArg Host.Outcome.next (hquiet _ _ _ _)
    · have hplace : s.trafficHasRoom = true := (trafficHasRoom_iff s).mpr (by rw [ht, List.length_cons]; omega)
      rw [hexec, transmit_of_traffic (nextAlert_eq_none hf hn ha) hm ht, if_pos hplace]
      exact congrArg Host.Outcome.next (hquiet _ _ _ _)
    · rw [hexec, transmit_of_nothing (nextAlert_eq_none hf hn ha) hm ht, issueAfter_self]

/-! ### The words of a sent response or alert (R190, R191, R193) -/

/-- The header word of a response, its spare bits 0 (R190, R193). -/
def responseHeader (p : Arrived) (n : Nat) : Word :=
  (RespKind.code p.kind ++ sourceBits p.dest ++ p.tag ++ p.status ++ bit p.last ++ bit p.poison ++ 0#4
    ++ BitVec.ofNat 5 n : BitVec 32)

theorem toNat_responseHeader (p : Arrived) {n : Nat} (hn : n < 32) :
    (responseHeader p n).toNat =
      (RespKind.code p.kind).toNat * 2 ^ 28 + p.dest.val * 2 ^ 23 + p.tag.toNat * 2 ^ 15 +
        p.status.toNat * 2 ^ 11 + p.last.toNat * 2 ^ 10 + p.poison.toNat * 2 ^ 9 + n := by
  have hd : p.dest.val < 32 := p.dest.isLt
  simp only [responseHeader, toNat_append_eq_add, sourceBits, bit, BitVec.toNat_ofNat, BitVec.toNat_ofBool]
  omega

/-- The header word before its data words carries the response (R190). -/
theorem carriesResponse_header (p : Arrived) {n : Nat} (hn : n < 32) :
    CarriesResponse (responseHeader p n :: p.data) p n := by
  have hw := toNat_responseHeader p hn
  have hd : p.dest.val < 32 := p.dest.isLt
  have ht : p.tag.toNat < 256 := p.tag.isLt
  have hs : p.status.toNat < 16 := p.status.isLt
  have hl : p.last.toNat < 2 := p.last.toNat_lt
  have hp : p.poison.toNat < 2 := p.poison.toNat_lt
  have hcode : (match p.kind with | .data => 8 | .done => 9 | .fail => 10) = (RespKind.code p.kind).toNat := by
    cases p.kind <;> rfl
  have hflag (b : Bool) : decide (b.toNat = 1) = b := by cases b <;> rfl
  refine ⟨_, rfl, ?_, ?_, ?_, ?_, ?_, ?_, ?_⟩
  · exact Eq.trans (by omega) hcode.symm
  · omega
  · omega
  · omega
  · exact (getLsbD_eq_decide _ 10).trans ((decide_eq_decide.mpr (by omega)).trans (hflag p.last))
  · exact (getLsbD_eq_decide _ 9).trans ((decide_eq_decide.mpr (by omega)).trans (hflag p.poison))
  · omega

theorem packResponse_data (dest : SourceId) (tag : ReqTag) (g : Segment) :
    packResponse { dest := dest, tag := tag, body := .data g } =
      responseHeader
        { kind := .data, dest := dest, tag := tag, status := 0#4, last := g.last, poison := g.poison, data := g.words }
        g.words.length :: g.words := rfl

theorem packResponse_done (dest : SourceId) (tag : ReqTag) :
    packResponse { dest := dest, tag := tag, body := .done } =
      [responseHeader
        { kind := .done, dest := dest, tag := tag, status := 0#4, last := false, poison := false, data := [] } 0] := rfl

theorem packResponse_fail (dest : SourceId) (tag : ReqTag) (st : Status) :
    packResponse { dest := dest, tag := tag, body := .fail st } =
      [responseHeader
        { kind := .fail, dest := dest, tag := tag, status := st.code, last := false, poison := false, data := [] }
        0] := rfl

/-- The spare bits of every response header are 0 (R193). -/
theorem packResponse_spare (r : Response) : ∃ w data, packResponse r = w :: data ∧ w.toNat / 2 ^ 5 % 16 = 0 := by
  have hspare (x : BitVec 23) (n : BitVec 5) : (x ++ 0#4 ++ n : BitVec 32).toNat / 2 ^ 5 % 16 = 0 := by
    have hn : n.toNat < 2 ^ 5 := n.isLt
    simp only [toNat_append_eq_add, BitVec.toNat_ofNat]
    omega
  obtain ⟨dest, tag, body⟩ := r
  cases body with
  | data g => exact ⟨_, _, rfl, hspare _ _⟩
  | done => exact ⟨_, _, rfl, hspare _ _⟩
  | fail st => exact ⟨_, _, rfl, hspare _ _⟩

theorem toNat_alertHeader (dest : SourceId) (c : BitVec 2) (k : BitVec 5) (overflowed : Bool) {n : Nat} (hn : n < 16) :
    (alertKindCode ++ sourceBits dest ++ c ++ k ++ BitVec.ofNat 4 n ++ bit overflowed ++ 0#11 : BitVec 32).toNat =
      12 * 2 ^ 28 + dest.val * 2 ^ 23 + c.toNat * 2 ^ 21 + k.toNat * 2 ^ 16 + n * 2 ^ 12 +
        overflowed.toNat * 2 ^ 11 := by
  have hd : dest.val < 32 := dest.isLt
  simp only [toNat_append_eq_add, alertKindCode, sourceBits, bit, BitVec.toNat_ofNat, BitVec.toNat_ofBool]
  omega

theorem toNat_errorCode (k : ErrorKind) : k.code.toNat = errorNumber k := by
  cases k <;> rfl

theorem packAlert_fields (a : Alert) (hn : a.records ≤ 8) : ∃ w, packAlert a = [w] ∧
    w.toNat / 2 ^ 28 = 12 ∧ w.toNat / 2 ^ 23 % 32 = a.dest.val ∧
    w.toNat / 2 ^ 21 % 4 = (match a.cls with | .fatal => 1 | .nonfatal => 2 | .advisory => 3) ∧
    w.toNat / 2 ^ 16 % 32 = errorNumber a.kind ∧ w.toNat / 2 ^ 12 % 16 = a.records ∧
    w.getLsbD 11 = a.overflowed ∧ w.toNat % 2 ^ 11 = 0 := by
  have hw := toNat_alertHeader a.dest a.cls.code a.kind.code a.overflowed (n := a.records) (by omega)
  have hd : a.dest.val < 32 := a.dest.isLt
  have hc : a.cls.code.toNat < 4 := a.cls.code.isLt
  have hk : a.kind.code.toNat < 32 := a.kind.code.isLt
  have ho : a.overflowed.toNat < 2 := a.overflowed.toNat_lt
  have hcode : (match a.cls with | .fatal => 1 | .nonfatal => 2 | .advisory => 3) = a.cls.code.toNat := by
    cases a.cls <;> rfl
  have hflag : decide (a.overflowed.toNat = 1) = a.overflowed := by cases a.overflowed <;> rfl
  refine ⟨_, rfl, ?_, ?_, ?_, ?_, ?_, ?_, ?_⟩
  · omega
  · omega
  · exact Eq.trans (by omega) hcode.symm
  · rw [← toNat_errorCode]; omega
  · omega
  · exact (getLsbD_eq_decide _ 11).trans ((decide_eq_decide.mpr (by omega)).trans hflag)
  · omega

/-! ### The check word (R119) -/

/-- The remainder over a run of bits, in the order they travel (R119). -/
def remainderOf (bits : List Bool) : BitVec 16 := bits.foldl crcBit 0xFFFF#16

theorem remainderOf_append (bits : List Bool) (b : Bool) :
    remainderOf (bits ++ [b]) =
      if (remainderOf bits).getLsbD 15 = b then remainderOf bits <<< 1
      else (remainderOf bits <<< 1) ^^^ 0x1021#16 := by
  rw [remainderOf, List.foldl_append, List.foldl_cons, List.foldl_nil, crcBit, BitVec.msb_eq_getLsbD_last]
  rfl

/-- The bits of a word from its most significant on. -/
def bitsOf (w : Word) : List Bool := (List.range 32).map fun i => w.getLsbD (31 - i)

theorem checkWord_eq_remainderOf (words : List Word) : checkWord words = remainderOf (words.flatMap bitsOf) := by
  have hword (r : BitVec 16) (w : Word) : crcBits w 32 r = (bitsOf w).foldl crcBit r := crcBits_eq_foldl w 32 r
  simp only [checkWord, remainderOf, List.foldl_flatMap, hword]

/-- Settles O53. -/
theorem sentPacketsCarryTheirFields : Obligations.SentPacketsCarryTheirFields :=
  ⟨fun kind source tag poison _ a payload hn => sentRequest_packRequest kind source tag poison a payload hn,
    fun dest tag g hn => by
      rw [packResponse_data]
      exact carriesResponse_header _ (by omega),
    fun dest tag => by
      rw [packResponse_done]
      exact carriesResponse_header _ (by decide),
    fun dest tag st => by
      rw [packResponse_fail]
      cases st <;> exact carriesResponse_header _ (by decide),
    packResponse_spare, packAlert_fields,
    remainderOf, rfl, remainderOf_append, checkWord_eq_remainderOf⟩

end Sys2Proof.Machine
end

section
/-! PROOF. The ring: which producers wait, what each places when it is given a place, and where a freed place and the
places free at a step's end go. -/

namespace Sys2Proof.Machine

section

variable {k : Fin 36} {n : SourceId} {s t u : State}

/-! ### Which producers wait (R131) -/

/-- A position of the ring is one of the first four, or a source's. -/
theorem ring_cases (k : Fin 36) : k = 0 ∨ k = 1 ∨ k = 2 ∨ k = 3 ∨ ∃ n, k = drainPosition n := by
  revert k; decide

theorem matcherNeedsRoom_iff (s : State) :
    s.matcherNeedsRoom = true ↔ ∃ p rest, ∃ g : PoolTag, ∃ r, s.ingress = p :: rest ∧ g.val = p.tag.toNat ∧
      getAt s.tags g = .active r ∧ ¬Inconsistent p r ∧ r.absorbed = false ∧ Forwarded s r := by
  constructor
  · intro h
    unfold State.matcherNeedsRoom at h
    split at h
    · exact nomatch h
    · next p rest hi =>
      by_cases hlt : p.tag.toNat < 64
      · have hg : (⟨p.tag.toNat, hlt⟩ : PoolTag).val = p.tag.toNat := rfl
        cases hr : getAt s.tags ⟨p.tag.toNat, hlt⟩ with
        | active r => exact ⟨p, rest, _, r, hi, hg, hr, (needsRoom_iff hg hr).mp h⟩
        | free => simp [State.needsRoom, tagStateOf_of_tag hg, hr] at h
        | quarantined q => simp [State.needsRoom, tagStateOf_of_tag hg, hr] at h
      · simp [State.needsRoom, State.tagStateOf, Arrived.pool, hlt] at h
  · rintro ⟨p, rest, g, r, hi, hg, hr, hneeds⟩
    simp only [State.matcherNeedsRoom, hi]
    exact (needsRoom_iff hg hr).mpr hneeds

theorem answers_iff (s : State) :
    s.answers = true ↔ s.forwardQueue ≠ [] ∧ ∃ st, s.headPhase = .answering st := by
  unfold State.answers
  cases hq : s.forwardQueue <;> cases hp : s.headPhase <;> simp

theorem drains_iff_sends (s : State) (n : SourceId) :
    s.drains n = true ↔ ∃ l rest e, getAt s.lists n = l :: rest ∧ getAt s.slots l = some e ∧
      (e.segs ≠ [] ∨ (e.state = .complete ∧ e.storedDone = true) ∨ ∃ st, e.state = .failed st) := by
  simp only [drains_iff, drainBody_isSome]

/-- What waiting means at each position. -/
theorem waits_iff (s : State) (k : Fin 36) : Waits s k ↔ s.ready (Producer.at k) = true := by
  obtain rfl | rfl | rfl | rfl | ⟨n, rfl⟩ := ring_cases k
  · simp [Waits, Producer.at, State.ready]
  · simp [Waits, Producer.at, State.ready, answers_iff]
  · simp [Waits, Producer.at, State.ready]
  · simp [Waits, Producer.at, State.ready, matcherNeedsRoom_iff]
  · have hlast (m : SourceId) : drainPosition m ≠ 0 ∧ drainPosition m ≠ 1 ∧ drainPosition m ≠ 2 ∧ drainPosition m ≠ 3 := by
      revert m; decide
    obtain ⟨h0, h1, h2, h3⟩ := hlast n
    rw [at_drainPosition, State.ready, Bool.and_eq_true, decide_eq_true_eq, drains_iff_sends]
    simp only [Waits, h0, h1, h2, h3, false_and, false_or]
    constructor
    · rintro ⟨m, hm, hw⟩
      obtain rfl : n = m := Fin.ext (Nat.add_right_cancel hm)
      exact hw
    · exact fun hw => ⟨n, rfl, hw⟩

theorem madeReady_iff_waits (before after : State) (k : Fin 36) :
    madeReady before after k = true ↔ k ≠ 3 ∧ Waits after k ∧ ¬Waits before k := by
  rw [madeReady_iff, waits_iff, waits_iff, ne_eq, at_eq_matcher, Bool.not_eq_true]

/-! ### What a producer places (R11, R35, R94, R127) -/

/-- A draining head sends its oldest segment, its DONE or its FAIL, and is removed with its final response. -/
theorem drained_drainHead {l : SlotId} {rest : List SlotId} {e : Element} (hlist : getAt s.lists n = l :: rest)
    (he : getAt s.slots l = some e)
    (hw : e.segs ≠ [] ∨ (e.state = .complete ∧ e.storedDone = true) ∨ ∃ st, e.state = .failed st) :
    Drained n l e s (drainHead n s) := by
  cases hsegs : e.segs with
  | cons x more =>
    have hb : e.drainBody = some (.data x) := by simp [Element.drainBody, hsegs]
    by_cases hmore : more ≠ [] ∨ e.state ≠ .complete ∨ e.storedDone = true
    · refine .inl ⟨x, more, hsegs, hmore, ?_⟩
      rw [drainHead_of_not_final hlist he hb (drainsFinal_of_segment hsegs hmore), hsegs, List.tail_cons,
        markDelivered_eq]
      rfl
    · simp only [ne_eq, not_or, not_not, Bool.not_eq_true] at hmore
      obtain ⟨rfl, hstate, hdone⟩ := hmore
      exact .inr (.inl ⟨x, hsegs, hstate, hdone, drainHead_of_final hlist he hb
        (by simp [Element.drainsFinal, hsegs, hstate, hdone])⟩)
  | nil =>
    obtain ⟨hstate, hdone⟩ | ⟨st, hstate⟩ := hw.resolve_left (absurd hsegs)
    · have hb : e.drainBody = some .done := by simp [Element.drainBody, hsegs, hstate, hdone]
      exact .inr (.inr (.inl ⟨hsegs, hstate, hdone, drainHead_of_final hlist he hb
        (by simp [Element.drainsFinal, hsegs])⟩))
    · exact .inr (.inr (.inr ⟨st, hsegs, hstate, drainHead_of_failed hlist he hsegs hstate⟩))

/-- A producer other than the Matcher that waits and is given a place has placed one packet. -/
theorem placed_serve (hk : k ≠ 3) (hw : Waits s k) : Placed k s (serve (Producer.at k) s) := by
  rcases hw with ⟨rfl, hm⟩ | ⟨rfl, hq, st, hp⟩ | ⟨rfl, hb⟩ | ⟨rfl, -⟩ | ⟨n, hn, -, l, rest, e, hlist, he, hw⟩
  · obtain ⟨a, rest, hm⟩ := List.exists_cons_of_ne_nil hm
    refine .inl ⟨rfl, a, rest, hm, ?_⟩
    show placeMalformed s = _
    simp only [placeMalformed, hm, returnRqCredits_eq]
    rfl
  · obtain ⟨w, rest, hq⟩ := List.exists_cons_of_ne_nil hq
    refine .inr (.inl ⟨rfl, w, rest, st, hq, hp, ?_⟩)
    show placeAnswer s = _
    simp only [placeAnswer, hq, hp]
    exact removeHead_eq hq
  · obtain ⟨a, rest, hb⟩ := List.exists_cons_of_ne_nil hb
    refine .inr (.inr (.inl ⟨rfl, a, rest, hb, ?_⟩))
    show placeBacklog s = _
    simp only [placeBacklog, hb]
    rfl
  · exact absurd rfl hk
  · rw [(at_eq_drain k n).mpr hn]
    exact .inr (.inr (.inr ⟨n, hn, l, rest, e, hlist, he, drained_drainHead hlist he hw⟩))

/-! ### A producer's own step (R131) -/

theorem issueAfter_of_phase (hp : ∀ c, s.headPhase ≠ .classified c) (u : State) : issueAfter s u = u :=
  (releasedResourceIssuesHead s u).1 hp

/-- A packet that needs room is consistent with its entry. -/
theorem matcherMismatches_of_needsRoom (h : s.matcherNeedsRoom = true) : s.matcherMismatches = false := by
  obtain ⟨p, rest, g, r, hi, hg, hr, hc, -⟩ := (matcherNeedsRoom_iff s).mp h
  exact Bool.eq_false_iff.mpr (mt (matcherMismatches_iff hi hg hr).mp hc)

theorem matcherStep_of_needsRoom (hroom : s.trafficQueue.length < 32) (h : s.matcherNeedsRoom = true) :
    matcherStep s = matcherTake s := by
  simp [matcherStep, (trafficHasRoom_iff s).mpr hroom, matcherMismatches_of_needsRoom h]

theorem ringCommand_drainPosition (n : SourceId) : ringCommand (drainPosition n) = .drainStep n := by
  revert n; decide

/-- A waiting producer that is given a place acts as in its own step, where no head waits to be issued. -/
theorem exec_ringCommand_of_ready (hroom : s.trafficQueue.length < 32) (hp : ∀ c, s.headPhase ≠ .classified c)
    (hr : s.ready (Producer.at k) = true) : exec (ringCommand k) s = .next (serve (Producer.at k) s) := by
  obtain rfl | rfl | rfl | rfl | ⟨n, rfl⟩ := ring_cases k
  · exact congrArg Host.Outcome.next (placeDirect_of_ready hroom hr)
  · exact congrArg Host.Outcome.next (placeDirect_of_ready hroom hr)
  · exact congrArg Host.Outcome.next ((issueAfter_of_phase hp _).trans (placeDirect_of_ready hroom hr))
  · exact congrArg Host.Outcome.next ((issueAfter_of_phase hp _).trans (matcherStep_of_needsRoom hroom hr))
  · rw [at_drainPosition] at hr ⊢
    rw [ringCommand_drainPosition]
    exact congrArg Host.Outcome.next ((issueAfter_of_phase hp _).trans (placeDirect_of_ready hroom hr))

/-! ### A freed place (R131, R132) -/

/-- The ring passes over the producers that do not wait and stops at the first that does. -/
theorem find?_ringFrom {p : Fin 36} {f : Fin 36 → Bool} {d : Fin 36} (hbefore : ∀ k, k < d → f (p + k) = false)
    (hd : f (p + d) = true) : (ringFrom p).find? f = some (p + d) := by
  have hfind : (List.finRange 36).find? (f ∘ (p + ·)) = some d := find?_finRange_eq_some_iff.mpr ⟨hd, hbefore⟩
  rw [ringFrom, List.find?_map, hfind]
  rfl

theorem givePlace_of_none (h : ∀ k, s.ready (Producer.at k) = false) : givePlace s = s := by
  have hnone : (ringFrom s.roomPointer).find? (fun p => s.ready (Producer.at p)) = none := by
    simp [h]
  simp only [givePlace, hnone]

theorem givePlace_of_first {d : Fin 36} (hbefore : ∀ k, k < d → s.ready (Producer.at (s.roomPointer + k)) = false)
    (hd : s.ready (Producer.at (s.roomPointer + d)) = true) : givePlace s = serveAt (s.roomPointer + d) s := by
  have hfind : (ringFrom s.roomPointer).find? (fun p => s.ready (Producer.at p)) = some (s.roomPointer + d) :=
    find?_ringFrom hbefore hd
  simp only [givePlace, hfind]

/-- With no alert and no answer of the Management Agent, the head of a full Traffic Queue leaves and its place is given
out. -/
theorem exec_transmitStep_of_full {r : Response} {rest : List Response} (hup : s.rqLink = .up) (hc : 0 < s.rqCredits)
    (hf : s.alert.fatal.slot = none) (hn : s.alert.nonfatal.slot = none) (ha : s.alert.advisory.slot = none)
    (hm : s.mgmtSlots = []) (ht : s.trafficQueue = r :: rest) (hlen : rest.length = 31) :
    exec .transmitStep s = .next (issueAfter s
      (givePlace (responseSent (packResponse r) { s with trafficQueue := rest }))) := by
  have hfull : ¬s.trafficHasRoom = true := mt (trafficHasRoom_iff s).mp (by simp [ht, hlen])
  rw [exec_transmitStep_of_credit hup hc, transmit_of_traffic (nextAlert_eq_none hf hn ha) hm ht, if_neg hfull]

/-! ### The places free at a step's end (R131) -/

theorem servedInTurn_foldl {ks : List (Fin 36)} (hks : ∀ k ∈ ks, k ≠ 3) (s : State) :
    ServedInTurn ks s
      (ks.foldl (fun s p => if s.trafficHasRoom && s.ready (Producer.at p) then serveAt p s else s) s) := by
  induction ks generalizing s with
  | nil => rfl
  | cons k ks ih =>
    have hrest := ih fun j hj => hks j (List.mem_cons_of_mem k hj)
    rw [List.foldl_cons]
    refine ⟨fun hroom hw => ⟨_, placed_serve (hks k List.mem_cons_self) hw, ?_⟩, fun hpassed => ?_⟩
    · rw [if_pos (Bool.and_eq_true_iff.mpr ⟨(trafficHasRoom_iff s).mpr hroom, (waits_iff s k).mp hw⟩)]
      exact hrest _
    · rw [if_neg fun h => ?_]
      · exact hrest s
      · obtain ⟨hroom, hw⟩ := Bool.and_eq_true_iff.mp h
        exact hpassed.elim (Nat.not_le.mpr ((trafficHasRoom_iff s).mp hroom)) fun hn => hn ((waits_iff s k).mpr hw)

theorem distribute_of_no_position (h : ∀ k, madeReady s u k = false) : distribute s u = u := by
  have hnone : (ringFrom u.roomPointer).filter (madeReady s u) = [] := by simp [h]
  rw [distribute, hnone]
  rfl

end

/-- Settles O36: a full queue's freed place, by the first producer that waits; the places at a step's end, by the run
over the ring. -/
theorem freedPlaceGoesRoundTheRing : Obligations.FreedPlaceGoesRoundTheRing := by
  refine ⟨?fullIdle, ?full,
    fun s k => (waits_iff s k).symm, madeReady_iff_waits, fun before after => ?turn,
    fun before after => ⟨fun h => ?nothing, fun k hk hroom hp => ?one⟩⟩
  case fullIdle =>
    intro r rest s hup hc hf hn ha hm ht hlen hp u
    have hexec : exec .transmitStep s = .next (givePlace u) := by
      rw [exec_transmitStep_of_full hup hc hf hn ha hm ht hlen, issueAfter_of_phase hp]
    have hroom : u.trafficQueue.length < 32 := hlen.trans_lt (by decide)
    refine ⟨fun hnone => by rw [hexec, givePlace_of_none hnone], fun d hbefore hd => ⟨_,
      exec_ringCommand_of_ready hroom hp hd, ?_⟩⟩
    have hgive : givePlace u = serveAt (u.roomPointer + d) u := givePlace_of_first hbefore hd
    rw [hexec, hgive]
    rfl
  case full =>
    intro r rest s hup hc hf hn ha hm ht hlen u
    have hexec : exec .transmitStep s = .next (issueAfter s (givePlace u)) :=
      exec_transmitStep_of_full hup hc hf hn ha hm ht hlen
    have hready (k : Fin 36) (hk : ¬Waits u k) : u.ready (Producer.at k) = false :=
      Bool.eq_false_iff.mpr (mt (waits_iff u k).mpr hk)
    refine ⟨fun hnone => by rw [hexec, givePlace_of_none fun k => hready k (hnone k)], fun d hbefore hd hmatcher => ⟨_,
      placed_serve hmatcher hd, ?_⟩⟩
    have hgive : givePlace u = serveAt (u.roomPointer + d) u :=
      givePlace_of_first (fun k hk => hready _ (hbefore k hk)) ((waits_iff u _).mp hd)
    rw [hexec, hgive]
    rfl
  case turn =>
    refine servedInTurn_foldl (fun k hk => ?_) after
    exact ((madeReady_iff_waits before after k).mp (List.mem_filter.mp hk).2).1
  case nothing => exact h.elim distribute_of_no_position (distribute_of_full before)
  case one =>
    obtain ⟨-, hw, -⟩ := (madeReady_iff_waits before after k).mp ((hk k).mpr rfl)
    refine ⟨_, exec_ringCommand_of_ready hroom hp ((waits_iff after k).mp hw), ?_⟩
    rw [distribute_of_one_madeReady hroom hk]
    rfl

end Sys2Proof.Machine
end

section
/-! PROOF. LINK DOWN on either port: what a termination of many entries does to the tags and the operating state, what
the teardowns add to it, and the two statements. -/

namespace Sys2Proof.Machine

section

variable {which : ActiveRec → Bool} {ans : Option Status} {dest : TagDest} {t : PoolTag} {s u v : State}

/-! ### The drained event of many terminations (R15) -/

/-- How ends of entries move the operating state: the last tag to leave ACTIVE makes QUIESCING QUIESCED. -/
structure Draining (s u : State) : Prop where
  active : u.activeTags ≤ s.activeTags
  opState : u.opState =
    if s.opState = .quiescing ∧ 0 < s.activeTags ∧ u.activeTags = 0 then .quiesced else s.opState

theorem Draining.refl (s : State) : Draining s s := ⟨le_rfl, (if_neg (by omega)).symm⟩

theorem Draining.trans (h : Draining s u) (k : Draining u v) : Draining s v where
  active := k.active.trans h.active
  opState := by
    have hle := h.active
    have hle' := k.active
    rw [k.opState, h.opState]
    by_cases hq : s.opState = .quiescing ∧ 0 < s.activeTags ∧ u.activeTags = 0
    · have hv : v.activeTags = 0 := by omega
      simp [hq, hv]
    · rw [if_neg hq]
      refine if_congr (and_congr_right fun ho => ?_) rfl rfl
      have hne : ¬(0 < s.activeTags ∧ u.activeTags = 0) := fun h => hq ⟨ho, h⟩
      omega

theorem activeTags_pos {g : PoolTag} {r : ActiveRec} (hr : getAt s.tags g = .active r) : 0 < s.activeTags := by
  refine Nat.pos_of_ne_zero fun h0 => ?_
  have hmem : (g, r) ∈ s.entriesOf fun _ => true := mem_entriesOf.mpr ⟨hr, rfl⟩
  rw [activeTags_eq_zero_iff.mp h0] at hmem
  exact nomatch hmem

theorem draining_terminate (t : PoolTag) (ans : Option Status) (dest : TagDest) (s : State) :
    Draining s (terminate t ans dest s) := by
  unfold terminate
  split
  · next r hr =>
    have htags : (leaveActive t (s.destState r dest) (answerEntry r ans s)).activeTags =
        (setTag t (s.destState r dest) s).activeTags := activeTags_congr (by simp [leaveActive_tags, setTag])
    refine ⟨htags.trans_le (activeTags_setTag_le s t (destState_inactive s r dest)), ?_⟩
    have hsame : (setTag t (s.destState r dest) (answerEntry r ans s)).activeTags =
        (setTag t (s.destState r dest) s).activeTags := activeTags_congr (by simp [setTag])
    rw [htags, leaveActive_eq, State.opAfter, hsame]
    simp [activeTags_pos hr]
  · exact .refl s

theorem draining_terminateAll (which : ActiveRec → Bool) (ans : Option Status) (dest : TagDest) (s : State) :
    Draining s (terminateAll which ans dest s) := by
  rw [terminateAll_eq_foldl]
  refine List.foldlRecOn _ _ (.refl s) fun u hu t _ => hu.trans ?_
  unfold terminatePicked
  split
  · split
    · exact draining_terminate t ans dest u
    · exact .refl u
  · exact .refl u

/-! ### The tags after many terminations (R7, R10) -/

/-- A tag after the termination of the entries that `which` picks. -/
def TagState.ended (which : ActiveRec → Bool) (dest : ActiveRec → TagState) : TagState → TagState
  | .active r => if which r = true then dest r else .active r
  | x => x

theorem ended_of_inactive {d : ActiveRec → TagState} {x : TagState} (hx : x.isActive = false) :
    x.ended which d = x := by
  cases x with
  | active r => exact nomatch hx
  | free => rfl
  | quarantined q => rfl

theorem ended_ended {d : ActiveRec → TagState} (hd : ∀ r, (d r).isActive = false) (x : TagState) :
    (x.ended which d).ended which d = x.ended which d := by
  cases x with
  | active r =>
    by_cases hw : which r = true
    · simp only [TagState.ended, if_pos hw]
      exact ended_of_inactive (hd r)
    · simp only [TagState.ended, if_neg hw]
  | free => rfl
  | quarantined q => rfl

theorem putAt_getAt_self {α : Type} {n : Nat} (T : Table α n) (i : Fin n) : putAt T i (getAt T i) = T := by
  simp [putAt, getAt]

theorem tags_terminatePicked (which : ActiveRec → Bool) (ans : Option Status) (dest : TagDest) (s : State)
    (t : PoolTag) : (terminatePicked which ans dest s t).tags =
      putAt s.tags t ((getAt s.tags t).ended which fun r => s.destState r dest) := by
  unfold terminatePicked
  split
  · next r hr =>
    rw [hr, TagState.ended]
    split
    · simp [terminate, hr, leaveActive_tags]
    · rw [← hr, putAt_getAt_self]
  · next hn =>
    have hx : (getAt s.tags t).isActive = false := by
      cases hx : getAt s.tags t with
      | active r => exact absurd hx (hn r)
      | free => rfl
      | quarantined q => rfl
    rw [ended_of_inactive hx, putAt_getAt_self]

theorem sameClock_terminatePicked (h : SameClock s u) (which : ActiveRec → Bool) (ans : Option Status) (dest : TagDest)
    (t : PoolTag) : SameClock s (terminatePicked which ans dest u t) := by
  unfold terminatePicked SameClock
  split
  · split
    · exact ⟨by simpa using h.1, by simpa using h.2⟩
    · exact h
  · exact h

theorem destState_of_sameClock (h : SameClock s u) (r : ActiveRec) (dest : TagDest) :
    u.destState r dest = s.destState r dest := by
  cases dest with
  | free => rfl
  | quarantined => simp only [State.destState, State.quarantineOf, h.1, h.2]

theorem tags_terminateAll (which : ActiveRec → Bool) (ans : Option Status) (dest : TagDest) (s : State) (g : PoolTag) :
    getAt (terminateAll which ans dest s).tags g = (getAt s.tags g).ended which fun r => s.destState r dest := by
  suffices H : ∀ (l : List PoolTag) (u : State), SameClock s u →
      getAt (l.foldl (terminatePicked which ans dest) u).tags g =
        if g ∈ l then (getAt u.tags g).ended which fun r => s.destState r dest else getAt u.tags g from
    (H (List.finRange 64) s ⟨rfl, rfl⟩).trans (if_pos (List.mem_finRange g))
  intro l
  induction l with
  | nil => exact fun u _ => rfl
  | cons t l ih =>
    intro u hu
    have hdest : (fun r => u.destState r dest) = fun r => s.destState r dest :=
      funext fun r => destState_of_sameClock hu r dest
    rw [List.foldl_cons, ih _ (sameClock_terminatePicked hu which ans dest t), tags_terminatePicked, hdest, getAt_putAt]
    by_cases ht : t = g
    · subst ht
      simp [ended_ended fun r => destState_inactive s r dest]
    · simp [ht, Ne.symm ht]

/-! ### Terminations without an answer (R9, R18) -/

/-- `u` is `s` but for entries, elements and counts. -/
def OnlyDropped (s u : State) : Prop :=
  u = { s with tags := u.tags, slots := u.slots, lists := u.lists, sources := u.sources, opState := u.opState }

theorem OnlyDropped.trans (h : OnlyDropped s u) (k : OnlyDropped u v) : OnlyDropped s v := Eq.trans k (by rw [h])

theorem onlyDropped_answerEntry (r : ActiveRec) (s : State) : OnlyDropped s (answerEntry r none s) := by
  unfold answerEntry
  split
  · rfl
  · cases r.link with
    | none => rfl
    | some l => rfl

theorem onlyDropped_leaveActive (t : PoolTag) (x : TagState) (s : State) : OnlyDropped s (leaveActive t x s) := by
  rw [leaveActive_eq]
  rfl

theorem onlyDropped_terminateAll (which : ActiveRec → Bool) (dest : TagDest) (s : State) :
    OnlyDropped s (terminateAll which none dest s) := by
  rw [terminateAll_eq_foldl]
  refine List.foldlRecOn (motive := OnlyDropped s) _ _ rfl fun u hu t _ => hu.trans ?_
  unfold terminatePicked
  split
  · split
    · unfold terminate
      split
      · exact (onlyDropped_answerEntry _ u).trans (onlyDropped_leaveActive _ _ _)
      · rfl
    · rfl
  · rfl

theorem onlyDropped_clearCounts (s : State) : OnlyDropped s (clearCounts s) :=
  List.foldlRecOn (motive := OnlyDropped s) _ _ rfl fun _ hu _ _ => hu.trans rfl

/-- A count cleared keeps the source's configuration. -/
theorem getAt_sources_clearCounts (s : State) (n : SourceId) :
    getAt (clearCounts s).sources n = { getAt s.sources n with count := 0 } := by
  have hconf := (tame_clearCounts s).configuration n
  have hcount := count_clearCounts s n
  rw [← hconf, ← hcount]

end

/-- The state with the RQ port DOWN and its queues empty. -/
def State.rqSevered (s : State) : State := { s with
  rqLink := .down, rqCredits := 0, forwardQueue := [], headPhase := .new, mgmtQueue := [], mgmtSlots := [],
  trafficQueue := [], malformedList := [] }

/-- The state after the entries that are not absorbed are abandoned (R18). -/
def State.rqAbandoned (s : State) : State := terminateAll ActiveRec.counted none .quarantined s.rqSevered

theorem rqTeardown_eq (s : State) : rqTeardown s = { s.rqSevered with
    backlog := [], tags := s.rqAbandoned.tags, sources := (clearCounts s.rqAbandoned).sources
    lists := fillTable 32 [], slots := fillTable 64 none, opState := s.rqAbandoned.opState
    alert := s.alert.linkLoss } := by
  have hdrop : OnlyDropped s.rqSevered (clearCounts s.rqAbandoned) :=
    (onlyDropped_terminateAll _ _ s.rqSevered).trans (onlyDropped_clearCounts _)
  have htags : (clearCounts s.rqAbandoned).tags = s.rqAbandoned.tags := by simp
  have hop : (clearCounts s.rqAbandoned).opState = s.rqAbandoned.opState := by simp
  show { clearLists (clearCounts s.rqAbandoned) with
    backlog := [], alert := (clearLists (clearCounts s.rqAbandoned)).alert.linkLoss } = _
  rw [← htags, ← hop, hdrop]
  simp only [clearLists, State.rqSevered]

theorem getAt_tags_rqAbandoned (s : State) (g : PoolTag) :
    getAt s.rqAbandoned.tags g = match getAt s.tags g with
      | .active r => if r.absorbed then .active r else s.abandoned r
      | x => x := by
  rw [State.rqAbandoned, tags_terminateAll]
  show (getAt s.tags g).ended _ _ = _
  cases getAt s.tags g with
  | active r => cases habs : r.absorbed <;> simp [TagState.ended, ActiveRec.counted, habs]; rfl
  | free => rfl
  | quarantined q => rfl

/-- Settles O8. -/
theorem rqLinkDownTeardown : Obligations.RqLinkDownTeardown := by
  intro s
  refine ⟨fun hdown => congrArg Host.Outcome.next (if_neg (by simp [hdown])), fun hup => ?_⟩
  refine ⟨s.rqAbandoned.tags, (clearCounts s.rqAbandoned).sources, getAt_tags_rqAbandoned s, fun n => ?_, ?_⟩
  · rw [getAt_sources_clearCounts]
    exact (tame_terminateAll ActiveRec.counted none .quarantined s.rqSevered).configuration n
  · have hop := (draining_terminateAll ActiveRec.counted none .quarantined s.rqSevered).opState
    rw [exec_rqLinkDown_of_up hup]
    refine congrArg (fun x => Host.Outcome.next (report .linkDownRq (some .rq) Ident.none x)) ?_
    rw [rqTeardown_eq, State.rqAbandoned, hop]
    rfl

end Sys2Proof.Machine
end

section
/-! PROOF. LINK DOWN on the RS port: a termination of every entry as a run over the entries, the quarantines lifted,
the head that waits for the RS port, and the statement. -/

namespace Sys2Proof.Machine

section

variable {which : ActiveRec → Bool} {st : Status} {dest : TagDest} {g : PoolTag} {p : PoolTag × ActiveRec}
  {s u : State}

/-! ### A termination of many entries as a run over the entries (R7) -/

theorem terminatePicked_of_entryAt_none (h : s.entryAt which g = none) (ans : Option Status) (dest : TagDest) :
    terminatePicked which ans dest s g = s := by
  unfold terminatePicked
  split
  · next r hr =>
    refine if_neg fun hw => ?_
    exact nomatch h.symm.trans (entryAt_eq_some_iff.mpr ⟨rfl, hr, hw⟩ : _ = some (g, r))
  · rfl

theorem terminatePicked_of_entryAt_some (h : s.entryAt which g = some p) (st : Status) (dest : TagDest) :
    terminatePicked which (some st) dest s g = endEntry st (fun r => s.destState r dest) s p := by
  obtain ⟨rfl, hr, hw⟩ := entryAt_eq_some_iff.mp h
  simp only [terminatePicked, terminate, hr, hw, if_true, leaveActive_eq_withdrawn]
  rfl

theorem terminateAll_some_eq (which : ActiveRec → Bool) (st : Status) (dest : TagDest) (s : State) :
    terminateAll which (some st) dest s =
      endEntries st (fun r => s.destState r dest) (s.entriesOf which) s := by
  rw [terminateAll_eq_foldl, entriesOf_eq_filterMap]
  refine foldl_eq_foldl_entries (P := SameClock s) (fun u g _ hn => terminatePicked_of_entryAt_none hn _ _)
    (fun u g p hu hp => ?_) (fun u p hu => sameClock_endEntry hu p) (fun u p g hne => ?_) (List.nodup_finRange 64)
    ⟨rfl, rfl⟩
  · rw [terminatePicked_of_entryAt_some hp]
    simp only [destState_of_sameClock hu]
  · rw [getAt_tags_endEntry, if_neg hne]

theorem terminated_terminateAll (which : ActiveRec → Bool) (st : Status) (dest : TagDest) (s : State) :
    Terminated which st (fun r => s.destState r dest) s (terminateAll which (some st) dest s) :=
  terminateAll_some_eq which st dest s ▸ terminated_endEntries which st _ s

theorem opState_terminateAll (ans : Option Status) (dest : TagDest) (s : State) :
    (terminateAll (fun _ => true) ans dest s).opState =
      if s.opState = .quiescing ∧ 0 < s.activeTags then .quiesced else s.opState := by
  rw [(draining_terminateAll _ ans dest s).opState, activeTags_eq_zero (not_active_of_terminateAll ans dest s)]
  simp

/-! ### The quarantines lifted (R19) -/

theorem eq_fillTable_iff {α : Type} {n : Nat} {T : Table α n} {x : α} : T = fillTable n x ↔ ∀ i, getAt T i = x := by
  refine ⟨fun h i => by simp [h], fun h => Vector.ext fun i hi => ?_⟩
  let k : Fin n := ⟨i, hi⟩
  exact (h k).trans (getAt_fillTable (n := n) x k).symm

theorem freeQuarantined_rest (s : State) : freeQuarantined s = { s with tags := (freeQuarantined s).tags } := by
  refine List.foldlRecOn (motive := fun u : State => u = { s with tags := u.tags }) _ _ rfl fun u hu g _ => ?_
  split
  · exact congrArg (setTag g .free) hu
  · exact hu

/-- Every tag FREE. -/
def State.allFree (s : State) : State := { s with tags := fillTable 64 .free }

theorem allFree_keeps (s : State) :
    s.allFree.opState = s.opState ∧ s.allFree.forwardQueue = s.forwardQueue ∧ s.allFree.headPhase = s.headPhase ∧
      s.allFree.rsLink = s.rsLink :=
  ⟨rfl, rfl, rfl, rfl⟩

theorem freeQuarantined_terminateAll (ans : Option Status) (dest : TagDest) (s : State) :
    freeQuarantined (terminateAll (fun _ => true) ans dest s) = (terminateAll (fun _ => true) ans dest s).allFree := by
  rw [freeQuarantined_rest, eq_fillTable_iff.mpr (free_of_freeQuarantined ans dest s), State.allFree]

/-! ### The head that waits for the RS port (R42) -/

theorem linkDownClassified_classified {w : Waiting} {rest : List Waiting} {c : Classified} (hq : s.forwardQueue = w :: rest)
    (hp : s.headPhase = .classified c) (hm : w.mark = false) (ho : s.opState = .run) (hl : s.rsLink = .down) :
    linkDownClassified s = linkDownHead w.req c.cls s := by
  simp [linkDownClassified, hq, hp, hm, ho, hl]

theorem linkDownClassified_other (h : (∀ c, s.headPhase ≠ .classified c) ∨ s.opState ≠ .run) :
    linkDownClassified s = s := by
  unfold linkDownClassified
  split
  · next w rest c _ hp => rw [if_neg]; simpa using fun _ ho => absurd ho (h.resolve_left fun hn => hn c hp)
  · rfl

end

/-- The state with the RS port DOWN and its ingress buffer empty. -/
def State.rsSevered (s : State) : State := { s with rsLink := .down, rsCredits := 0, ingress := [] }

/-- The state after every entry is answered LINK_DOWN (R19). -/
def State.rsEnded (s : State) : State := terminateAll (fun _ => true) (some .linkDown) .free s.rsSevered

theorem rsTeardown_eq (s : State) : rsTeardown s = linkDownClassified s.rsEnded.allFree := by
  show linkDownClassified (freeQuarantined (terminateAll (fun _ => true) (some .linkDown) .free s.rsSevered)) = _
  rw [freeQuarantined_terminateAll, State.rsEnded]

theorem opState_rsEnded (s : State) :
    s.rsEnded.opState = if s.opState = .quiescing ∧ 0 < s.activeTags then .quiesced else s.opState :=
  opState_terminateAll _ _ _

theorem opState_rsEnded_eq_run_iff (s : State) : s.rsEnded.opState = .run ↔ s.opState = .run := by
  rw [opState_rsEnded]
  split
  · next h => simp [h.1]
  · rfl

theorem rsEnded_keeps (s : State) :
    s.rsEnded.forwardQueue = s.forwardQueue ∧ s.rsEnded.headPhase = s.headPhase ∧ s.rsEnded.rsLink = .down := by
  have hended : s.rsEnded.forwardQueue = s.rsSevered.forwardQueue ∧ s.rsEnded.headPhase = s.rsSevered.headPhase ∧
      s.rsEnded.rsLink = s.rsSevered.rsLink := by
    simp [State.rsEnded]
  exact hended

/-- Settles O9. -/
theorem rsLinkDownTeardown : Obligations.RsLinkDownTeardown := by
  intro s hs
  refine ⟨fun hdown => congrArg Host.Outcome.next (if_neg (by simp [hdown])), fun hup => ?_⟩
  obtain ⟨hqueue, hphase, hlink⟩ := rsEnded_keeps s
  obtain ⟨hop', hqueue', hphase', hlink'⟩ := allFree_keeps s.rsEnded
  have hrun := opState_rsEnded_eq_run_iff s
  refine ⟨s.rsEnded, s.rsEnded.allFree, rsTeardown s, terminated_terminateAll _ .linkDown .free s.rsSevered, opState_rsEnded s,
    rfl, fun w rest c hq hp ho => ?_, fun hother => ?_, exec_rsLinkDown_of_up hup⟩
  · have hq' := hqueue'.trans (hqueue.trans hq)
    have hp' := hphase'.trans (hphase.trans hp)
    rw [rsTeardown_eq, linkDownClassified_classified hq' hp' (hs.unmarked w rest c hq hp).1 (hop'.trans (hrun.mpr ho))
      (hlink'.trans hlink)]
    exact linkDownHead_eq hq' (hs.cls w rest c hq hp)
  · rw [rsTeardown_eq]
    refine linkDownClassified_other (hother.imp (fun h c => ?_) fun h => ?_)
    · rw [hphase', hphase]
      exact h c
    · rw [hop']
      exact mt hrun.mp h

end Sys2Proof.Machine
end

section
/-! PROOF. The Error Unit's report and the Alert Unit's raise, case by case, and the statement about them. -/

namespace Sys2Proof.Machine

section

variable {s : State} {k : ErrorKind}

/-! ### The report (R140 to R146, R153) -/

/-- Masked, a report sets the status and nothing else (R141). -/
theorem report_of_masked (h : (s.err.item k).mask = true) (port : Option PortId) (id : Ident) :
    report k port id s = { s with err := s.err.setStatus k } :=
  if_pos h

/-- Not masked, it goes on from the state whose status is set (R142). -/
theorem report_of_unmasked (h : (s.err.item k).mask = false) (port : Option PortId) (id : Ident) :
    report k port id s = reportUnmasked k port id { s with err := s.err.setStatus k } :=
  if_neg (ne_true_of_eq_false h)

@[simp] theorem item_setStatus (e : ErrorUnit) (k : ErrorKind) :
    (e.setStatus k).item k = { e.item k with status := true } :=
  getAt_putAt_self _ _ _

/-- The record that a report makes carries the severity the kind had before its status was set (R143). -/
theorem reportUnmasked_setStatus (k : ErrorKind) (port : Option PortId) (id : Ident) (s : State) :
    reportUnmasked k port id { s with err := s.err.setStatus k } =
      let sev := (s.err.item k).severity
      let e := (s.err.setStatus k).append
        { kind := k, severity := sev, port := port, stamp := s.tick.count, ident := id }
      { s with
        err := e
        alert := s.alert.raise sev k e.records.length e.overflowed
        haltRequested :=
          s.haltRequested || (decide (sev = .fatal) && s.err.haltOnFatal && decide (s.opState ≠ .halted)) } := by
  simp only [reportUnmasked, item_setStatus, (append_settings _ _).2]
  rfl

theorem index_errorNumber (k : ErrorKind) : k.index.val + 1 = errorNumber k := by cases k <;> rfl

/-! ### A class that is told of an error (R162, R163) -/

variable {a : AlertUnit} {c : Severity}

theorem raise_of_idle (h : (a.cls c).state = .idle) (henable : (a.cls c).enable = true) (hdest : a.destValid = true)
    (k : ErrorKind) (n : Nat) (o : Bool) :
    a.raise c k n o = a.setCls c
      { a.cls c with state := .outstanding, latest := some k, slot := some (a.build c k n o) } := by
  simp [AlertUnit.raise, h, henable, hdest]

theorem raise_of_unable (h : (a.cls c).state = .idle) (hoff : (a.cls c).enable = false ∨ a.destValid = false)
    (k : ErrorKind) (n : Nat) (o : Bool) : a.raise c k n o = a := by
  have hcond : ((a.cls c).enable && a.destValid) = false := Bool.and_eq_false_iff.mpr hoff
  simp [AlertUnit.raise, h, hcond]

theorem raise_of_not_idle (h : (a.cls c).state ≠ .idle) (k : ErrorKind) (n : Nat) (o : Bool) :
    a.raise c k n o = a.setCls c { a.cls c with state := .pending, latest := some k } := by
  unfold AlertUnit.raise
  dsimp only
  split
  · next hidle => exact absurd hidle h
  · rfl
  · next hpending => rw [← hpending]

end

/-- Settles O52: the report by its mask, and the class it tells by that class's state. -/
theorem errorReports : Obligations.ErrorReports := by
  refine ⟨fun k port id s => ⟨fun hm => report_of_masked hm port id, fun hm => ?_⟩, fun a c k n o => ?_,
    index_errorNumber⟩
  · exact (report_of_unmasked hm port id).trans (reportUnmasked_setStatus k port id s)
  · exact ⟨fun h he hd => raise_of_idle h he hd k n o, fun h hoff => raise_of_unable h hoff k n o,
      fun h => raise_of_not_idle h k n o⟩

end Sys2Proof.Machine
end

section
/-! PROOF. The log's commands and the writes of the error words: runs over the error items, what each word's code means,
and the statements about POP_RECORD, CLEAR_RECORDS, CLEAR_STATUS and the three error words. -/

namespace Sys2Proof.Machine

/-! ### Runs over the error items -/

section

variable {α : Type} {pos : α → Fin 20} {edit : α → ErrorItem → ErrorItem} {l : List α}

/-- The item at the position of `a` edited as `a` says: the shape of each elementary change of the items. -/
def ErrorUnit.editItem (pos : α → Fin 20) (edit : α → ErrorItem → ErrorItem) (e : ErrorUnit) (a : α) : ErrorUnit :=
  { e with items := putAt e.items (pos a) (edit a (getAt e.items (pos a))) }

theorem clearAt_eq_editItem :
    ErrorUnit.clearAt = ErrorUnit.editItem id fun _ x => { x with status := false } := rfl

theorem maskFrom_eq_editItem (v : Word) :
    ErrorUnit.maskFrom v = ErrorUnit.editItem id fun i x => { x with mask := v.getLsbD (i.val + 1) } := rfl

theorem severityFrom_eq_editItem (second : Bool) (v : Word) :
    ErrorUnit.severityFrom second v = ErrorUnit.editItem (severityIndex second) fun j x =>
      { x with severity := (Severity.ofCode (severityCode v j)).getD x.severity } := rfl

/-- A run of edits changes the items and nothing else. -/
theorem foldl_editItem_rest (e : ErrorUnit) :
    l.foldl (ErrorUnit.editItem pos edit) e =
      { e with items := (l.foldl (ErrorUnit.editItem pos edit) e).items } := by
  induction l generalizing e with
  | nil => rfl
  | cons a l ih => exact ih _

/-- A run of edits leaves a position alone that is none of theirs. -/
theorem getAt_foldl_editItem_of_ne {i : Fin 20} (h : ∀ a ∈ l, pos a ≠ i) (e : ErrorUnit) :
    getAt (l.foldl (ErrorUnit.editItem pos edit) e).items i = getAt e.items i := by
  induction l generalizing e with
  | nil => rfl
  | cons a l ih =>
    obtain ⟨ha, hl⟩ := List.forall_mem_cons.mp h
    rw [List.foldl_cons, ih hl]
    exact getAt_putAt_ne _ _ ha

/-- A run of edits at distinct positions makes each edit on the item as it was before the run. -/
theorem getAt_foldl_editItem (hpos : pos.Injective) (hl : l.Nodup) {a : α} (ha : a ∈ l) (e : ErrorUnit) :
    getAt (l.foldl (ErrorUnit.editItem pos edit) e).items (pos a) = edit a (getAt e.items (pos a)) := by
  induction l generalizing e with
  | nil => exact nomatch ha
  | cons b l ih =>
    obtain ⟨hb, hl⟩ := List.nodup_cons.mp hl
    rw [List.foldl_cons]
    by_cases hab : a = b
    · subst hab
      rw [getAt_foldl_editItem_of_ne (i := pos a) fun x hx he => hb (hpos he ▸ hx)]
      exact getAt_putAt_self _ _ _
    · have hne : pos b ≠ pos a := fun he => hab (hpos he).symm
      rw [ih hl ((List.mem_cons.mp ha).resolve_left hab)]
      exact congrArg (edit a) (getAt_putAt_ne _ _ hne)

theorem getAt_clearAll (e : ErrorUnit) (i : Fin 20) :
    getAt e.clearAll.items i = { getAt e.items i with status := false } := by
  rw [ErrorUnit.clearAll, clearAt_eq_editItem]
  exact getAt_foldl_editItem Function.injective_id (List.nodup_finRange 20) (List.mem_finRange i) e

/-- All statuses cleared: the items change and nothing else. -/
theorem clearAll_rest (e : ErrorUnit) : e.clearAll = { e with items := e.clearAll.items } := by
  rw [ErrorUnit.clearAll, clearAt_eq_editItem]
  exact foldl_editItem_rest e

theorem getAt_maskFrom (v : Word) (e : ErrorUnit) (i : Fin 20) :
    getAt ((List.finRange 20).foldl (ErrorUnit.maskFrom v) e).items i =
      { getAt e.items i with mask := v.getLsbD (i.val + 1) } := by
  rw [maskFrom_eq_editItem]
  exact getAt_foldl_editItem Function.injective_id (List.nodup_finRange 20) (List.mem_finRange i) e

end

/-! ### The severity words (R152, R198) -/

/-- The position for which a severity word has its first code. -/
def firstKind (second : Bool) : Nat := if second then 10 else 0

theorem severityIndex_val (second : Bool) (j : Fin 10) : (severityIndex second j).val = firstKind second + j.val := by
  revert second j
  decide

theorem severityIndex_injective (second : Bool) : (severityIndex second).Injective := fun i j h => by
  have hval := congrArg Fin.val h
  rw [severityIndex_val, severityIndex_val] at hval
  exact Fin.ext (Nat.add_left_cancel hval)

theorem severity_extract (v : Word) (j : Fin 10) : Severity.ofCode (severityCode v j) =
    if v.toNat / 4 ^ j.val % 4 = 0 then none else some (severityOf (v.toNat / 4 ^ j.val % 4)) := by
  simp only [Severity.ofCode, severityCode, extract_eq_iff v (2 * j.val) (len := 2) (n := 1) (by decide),
    extract_eq_iff v (2 * j.val) (len := 2) (n := 2) (by decide),
    extract_eq_iff v (2 * j.val) (len := 2) (n := 3) (by decide), Nat.pow_mul]
  show (if v.toNat / 4 ^ j.val % 4 = 1 then _ else _) = _
  have hlt : v.toNat / 4 ^ j.val % 4 < 4 := Nat.mod_lt _ (by decide)
  generalize v.toNat / 4 ^ j.val % 4 = n at hlt
  revert n
  decide

/-- The ten positions of a severity word take their codes' severities, and the other ten stay. -/
theorem getAt_severityFrom {v : Word} (h : ∀ j : Fin 10, v.toNat / 4 ^ j.val % 4 ≠ 0) (second : Bool) (e : ErrorUnit)
    (i : Fin 20) :
    getAt ((List.finRange 10).foldl (ErrorUnit.severityFrom second v) e).items i =
      if firstKind second ≤ i.val ∧ i.val < firstKind second + 10 then
        { getAt e.items i with severity := severityOf (v.toNat / 4 ^ (i.val - firstKind second) % 4) }
      else getAt e.items i := by
  rw [severityFrom_eq_editItem]
  split
  · next hi =>
    obtain ⟨j, rfl⟩ : ∃ j, severityIndex second j = i :=
      ⟨⟨i.val - firstKind second, by omega⟩, Fin.ext ((severityIndex_val second _).trans (Nat.add_sub_cancel' hi.1))⟩
    rw [getAt_foldl_editItem (severityIndex_injective second) (List.nodup_finRange 10) (List.mem_finRange j),
      severity_extract, if_neg (h j), severityIndex_val, Nat.add_sub_cancel_left]
    rfl
  · next hi =>
    refine getAt_foldl_editItem_of_ne (fun j _ hj => hi ?_) e
    have hval := severityIndex_val second j
    rw [hj] at hval
    omega

theorem severityCodes_all_iff (v : Word) :
    ((List.finRange 10).all fun j => (Severity.ofCode (severityCode v j)).isSome) = true ↔
      ∀ j : Fin 10, v.toNat / 4 ^ j.val % 4 ≠ 0 := by
  simp only [List.all_eq_true, List.mem_finRange, forall_const, severity_extract]
  refine forall_congr' fun j => ?_
  split <;> simp_all

/-! ### The taking step on the commands of the log and on the error words (R174, R175) -/

section

variable {s u : State} {r : Request} {rest : List Request} {v : Word} {row : MgmtRow}

/-- A command whose effect accepts its argument, where issue reads nothing of what it changes (R175). -/
theorem taken_command_accepted (h : WriteTaken s r rest 4 v) (hr : r.row = row)
    {effect : BitVec 8 → State → Option State} (he : effect (commandArgOf v) s = some u)
    (hq : SameIssue s (shown v false u) := by constructor <;> rfl) :
    takeRequest row (commandWith effect) s = answered r rest .done (shown v false u) :=
  (takeRequest_command h row hr effect u he hq.mgmtQueue).trans (hq.issueAfter_answered r rest .done)

/-- A command that is refused (R175). -/
theorem taken_command_refused (h : WriteTaken s r rest 4 v) (hr : r.row = row)
    {effect : BitVec 8 → State → Option State} (he : effect (commandArgOf v) s = none) :
    takeRequest row (commandWith effect) s = refusedWith r rest .denied (shown v true s) :=
  have hq : SameIssue s (report .mgmtRefused none (headerIdent r) (shown v true s)) := by
    constructor <;> simp [shown]
  (takeRequest_command_refused h row hr effect he).trans (hq.issueAfter_answered r rest _)

theorem clearStatus_of_zero {arg : BitVec 8} (h : arg.toNat = 0) (s : State) :
    clearStatusEffect arg s = some { s with err := { s.err with items := s.err.clearAll.items } } := by
  rw [clearStatusEffect, if_pos h, ← clearAll_rest]

theorem clearStatus_of_kind {arg : BitVec 8} {i : Fin 20} (h : arg.toNat = i.val + 1) (s : State) :
    clearStatusEffect arg s = some { s with err := s.err.clearAt i } := by
  have hi : arg.toNat - 1 = i.val := by omega
  rw [clearStatusEffect, if_neg (by omega), dif_pos (by omega)]
  simp only [hi]

theorem clearStatus_of_above {arg : BitVec 8} (h : 20 < arg.toNat) (s : State) : clearStatusEffect arg s = none := by
  rw [clearStatusEffect, if_neg (by omega), dif_neg (by omega)]

/-- As for the other writes, the rule is opened as a function before it meets the request, so that the kernel does not
evaluate the word's offset. -/
theorem writeErrorSeverity_of_word {second : Bool} (hw : r.word = some (.errorSeverity second)) (s : State) :
    writeErrorSeverity r s =
      if (List.finRange 10).all fun j => (Severity.ofCode (severityCode r.value j)).isSome then
        some { s with err := (List.finRange 10).foldl (ErrorUnit.severityFrom second r.value) s.err }
      else none := by
  generalize hf : writeErrorSeverity = f
  delta writeErrorSeverity at hf
  subst hf
  beta_reduce
  generalize r.word = w at hw
  subst hw
  rfl

/-- A write of a severity word. -/
theorem errorSeverityWrite_taken {off : Nat} (h : WriteTaken s r rest off v) {second : Bool}
    (hoff : mgmtWordAt off = some (.errorSeverity second)) :
    ((∃ j : Fin 10, v.toNat / 4 ^ j.val % 4 = 0) →
      exec .errorSeverityWrite s = .next (refusedWith r rest .denied s)) ∧
    ((∀ j : Fin 10, v.toNat / 4 ^ j.val % 4 ≠ 0) → ∃ items : Table ErrorItem 20,
      (∀ i : Fin 20, getAt items i =
        if firstKind second ≤ i.val ∧ i.val < firstKind second + 10 then
          { getAt s.err.items i with severity := severityOf (v.toNat / 4 ^ (i.val - firstKind second) % 4) }
        else getAt s.err.items i) ∧
      exec .errorSeverityWrite s =
        .next (answered r rest .done { s with err := { s.err with items := items } })) := by
  obtain ⟨hw, hk⟩ := h.addresses hoff
  have hrow : r.row = .errorSeverity := by simp [Request.row, hw, hk]
  refine ⟨fun ⟨j, hj⟩ => congrArg Host.Outcome.next (taken_write_refused h hrow ?_), fun hcodes =>
    ⟨_, getAt_severityFrom hcodes second s.err, congrArg Host.Outcome.next (taken_write_accepted h hrow ?_)⟩⟩
  · rw [writeErrorSeverity_of_word hw, h.value, if_neg (mt (severityCodes_all_iff v).mp fun hall => hall j hj)]
  · rw [writeErrorSeverity_of_word hw, h.value, if_pos ((severityCodes_all_iff v).mpr hcodes),
      severityFrom_eq_editItem, ← foldl_editItem_rest]

end

/-! ### The statements -/

/-- Settles O43, by whether the queue holds a record. -/
theorem popAndClearRecords : Obligations.PopAndClearRecords := fun r rest v s h => by
  refine ⟨fun hc => ⟨fun x more hx => congrArg Host.Outcome.next ?_, fun hx => congrArg Host.Outcome.next ?_⟩,
    fun hc => congrArg Host.Outcome.next ?_⟩
  · exact taken_command_accepted h (row_command h hc) (by simp [popRecordEffect, hx])
  · exact taken_command_refused h (row_command h hc) (by simp [popRecordEffect, hx])
  · exact taken_command (f := clearRecordsEffect) h (row_command h hc)

/-- Settles O44, by the argument. -/
theorem clearStatusByArgument : Obligations.ClearStatusByArgument := fun r rest v s h hc => by
  have hrow := row_command h hc
  have harg := arg_of v
  refine ⟨fun habove => congrArg Host.Outcome.next ?_, fun i hi => congrArg Host.Outcome.next ?_, fun hzero =>
    ⟨s.err.clearAll.items, getAt_clearAll s.err, congrArg Host.Outcome.next ?_⟩⟩
  · exact taken_command_refused h hrow (clearStatus_of_above (habove.trans_eq harg.symm) s)
  · exact taken_command_accepted h hrow (clearStatus_of_kind (harg.trans hi) s)
  · exact taken_command_accepted h hrow (clearStatus_of_zero (harg.trans hzero) s)

/-- Settles O48, word by word. -/
theorem errorWordWrites : Obligations.ErrorWordWrites := fun r rest v s => by
  refine ⟨fun h => ?_, fun first h => ?_, fun h => ?_⟩
  · obtain ⟨hw, hk⟩ := h.addresses (w := .errorMask) (by decide)
    have hrow : r.row = .errorMask := by simp [Request.row, hw, hk]
    refine ⟨_, getAt_maskFrom v s.err, congrArg Host.Outcome.next (taken_write_accepted h hrow ?_)⟩
    rw [writeErrorMask, h.value, maskFrom_eq_editItem, ← foldl_editItem_rest]
  · rcases h with ⟨rfl, h⟩ | ⟨rfl, h⟩
    · exact errorSeverityWrite_taken h (second := false) (by decide)
    · exact errorSeverityWrite_taken h (second := true) (by decide)
  · obtain ⟨hw, hk⟩ := h.addresses (w := .errorControl) (by decide)
    have hrow : r.row = .errorControl := by simp [Request.row, hw, hk]
    refine congrArg Host.Outcome.next (taken_write_accepted h hrow ?_)
    rw [writeErrorControl, h.value]

end Sys2Proof.Machine
end

section
/-! PROOF. The queue of commands, which no command touches: the commands that are no management rows, the rows, and the
statement that every command answers a next state. -/

namespace Sys2Proof.Machine

section

variable {s u : State}

theorem pending_ite {p : Prop} [Decidable p] {v : State} (hu : u.pending = s.pending) (hv : v.pending = s.pending) :
    (if p then u else v).pending = s.pending := by
  split
  · exact hu
  · exact hv

/-! ### The links and what arrives on them (chapter 7) -/

@[simp] theorem pending_rqUp (s : State) : (rqUp s).pending = s.pending := by simp [rqUp]

@[simp] theorem pending_rsUp (s : State) : (rsUp s).pending = s.pending := by simp [rsUp]

@[simp] theorem pending_rqFramingFailure (s : State) : (rqFramingFailure s).pending = s.pending := by
  simp [rqFramingFailure]

@[simp] theorem pending_rsFramingFailure (s : State) : (rsFramingFailure s).pending = s.pending := by
  simp [rsFramingFailure]

@[simp] theorem pending_failKind (p : PoolCode) (words : List Word) (s : State) :
    (failKind p words s).pending = s.pending := by simp [failKind]

@[simp] theorem pending_takeMalformed (r : Request) (p : PoolCode) (s : State) :
    (takeMalformed r p s).pending = s.pending := by
  unfold takeMalformed answerMalformed
  exact pending_ite (by simp) (pending_ite (by simp) (by simp))

@[simp] theorem pending_sortRequest (r : Request) (p : PoolCode) (s : State) :
    (sortRequest r p s).pending = s.pending := by
  unfold sortRequest joinForward
  exact pending_ite rfl (pending_ite (by simp) rfl)

@[simp] theorem pending_takeRqPacket (p : PoolCode) (words : List Word) (s : State) :
    (takeRqPacket p words s).pending = s.pending := by
  unfold takeRqPacket
  split
  · split
    · exact pending_ite (by simp) (by simp)
    · simp
  · simp

@[simp] theorem pending_admitRq (p : PoolCode) (words : List Word) (check : BitVec 16) (s : State) :
    (admitRq p words check s).pending = s.pending :=
  pending_ite (by simp) (pending_ite (by simp) (by simp))

@[simp] theorem pending_failFormat (words : List Word) (s : State) : (failFormat words s).pending = s.pending := by
  simp [failFormat]

@[simp] theorem pending_takeRsPacket (words : List Word) (s : State) : (takeRsPacket words s).pending = s.pending := by
  unfold takeRsPacket
  split
  · simp
  · split
    · simp
    · exact pending_ite (by simp) rfl

@[simp] theorem pending_admitRs (words : List Word) (check : BitVec 16) (s : State) :
    (admitRs words check s).pending = s.pending :=
  pending_ite (by simp) (pending_ite (by simp) (by simp))

theorem rqArrival_answers_next (framing : BitVec 8) (words : List Word) (check : BitVec 16) (s : State) :
    ∃ t, execRqArrival framing words check s = .next t ∧ t.pending = s.pending := by
  refine ⟨_, rfl, pending_ite rfl ?_⟩
  split <;> simp

theorem rsArrival_answers_next (framing : BitVec 8) (words : List Word) (check : BitVec 16) (s : State) :
    ∃ t, execRsArrival framing words check s = .next t ∧ t.pending = s.pending := by
  refine ⟨_, rfl, pending_ite rfl ?_⟩
  split <;> simp

theorem creditReturn_answers_next (port : PortId) (byte : BitVec 8) (s : State) :
    ∃ t, execCreditReturnIndication port byte s = .next t ∧ t.pending = s.pending := by
  cases port with
  | rq => exact ⟨_, rfl, pending_ite rfl (pending_ite rfl (by simp))⟩
  | rs => exact ⟨_, rfl, pending_ite rfl (pending_ite (by simp) (by simp))⟩

/-! ### What leaves, Dispatch and the Matcher -/

@[simp] theorem pending_sendRq (words : List Word) (s : State) : (sendRq words s).pending = s.pending := rfl

@[simp] theorem pending_transmit (s : State) : (transmit s).pending = s.pending := by
  unfold transmit transmitTraffic
  split
  · rfl
  · split
    · rfl
    · split
      · rfl
      · exact pending_ite rfl (by simp)

@[simp] theorem pending_takeUpHead (s : State) : (takeUpHead s).pending = s.pending := by
  unfold takeUpHead
  split
  · rfl
  · split
    · rfl
    · exact pending_ite (by simp) (by simp)
    · exact pending_ite (by simp) (pending_ite (by simp) rfl)

@[simp] theorem pending_matcherStep (s : State) : (matcherStep s).pending = s.pending :=
  pending_ite rfl (pending_ite (by simp) (by simp))

@[simp] theorem pending_takeHalt (s : State) : (takeHalt s).pending = s.pending :=
  pending_ite (pending_ite rfl (by simp)) rfl

theorem issue_answers_next (s : State) : ∃ t, execIssue s = .next t ∧ t.pending = s.pending := by
  refine ⟨_, rfl, ?_⟩
  split
  · exact pending_ite rfl (by simp)
  · rfl

theorem issuePlainPosted_answers_next (s : State) : ∃ t, execIssuePlainPosted s = .next t ∧ t.pending = s.pending := by
  refine ⟨_, rfl, ?_⟩
  split
  · exact pending_ite (by simp) rfl
  · rfl

/-! ### The rows of the Management Agent (R170 to R175) -/

theorem answerable_pending (q : List Instr) : Answerable fun u => u.pending = q where
  report u id h := by simpa using h
  shown _ _ _ h := h
  answer u r a h := by
    unfold placeManagementAnswer
    split
    · exact h
    · exact h
  finish u h := by simpa [finishRequest] using h

theorem pending_quiesce (hu : quiesceEffect s = some u) : u.pending = s.pending := by
  unfold quiesceEffect at hu
  split at hu
  · exact Option.some.inj hu ▸ rfl
  · exact Option.some.inj hu ▸ rfl
  · exact Option.some.inj hu ▸ rfl
  · exact nomatch hu

@[simp] theorem pending_resumeRun (s : State) : (resumeRun s).pending = s.pending := by simp [resumeRun]

theorem pending_resume (hu : resumeEffect s = some u) : u.pending = s.pending := by
  unfold resumeEffect at hu
  split at hu
  · exact Option.some.inj hu ▸ rfl
  · exact Option.some.inj hu ▸ pending_resumeRun s
  · exact Option.some.inj hu ▸ pending_resumeRun s
  · exact Option.some.inj (Option.ite_none_left_eq_some.mp hu).2 ▸ pending_resumeRun s

theorem pending_flush {a : BitVec 8} (hu : flushEffect a s = some u) : u.pending = s.pending := by
  obtain ⟨_, hu⟩ := Option.dite_none_right_eq_some.mp hu
  simp [← Option.some.inj hu]

theorem pending_alertAck {a : BitVec 8} (hu : alertAckEffect a s = some u) : u.pending = s.pending := by
  obtain ⟨c, -, rfl⟩ := Option.map_eq_some_iff.mp hu
  rfl

theorem pending_popRecord (hu : popRecordEffect s = some u) : u.pending = s.pending := by
  unfold popRecordEffect at hu
  split at hu
  · exact nomatch hu
  · exact Option.some.inj hu ▸ rfl

theorem pending_clearStatus {a : BitVec 8} (hu : clearStatusEffect a s = some u) : u.pending = s.pending := by
  unfold clearStatusEffect at hu
  split at hu
  · exact Option.some.inj hu ▸ rfl
  · obtain ⟨_, hu⟩ := Option.dite_none_right_eq_some.mp hu
    exact Option.some.inj hu ▸ rfl

theorem pending_sourceConfig {r : Request} (hu : writeSourceConfig r s = some u) : u.pending = s.pending := by
  obtain ⟨n, e, rfl, -⟩ := writeSourceConfig_some hu
  rfl

theorem pending_staging {r : Request} (hu : writeStaging r s = some u) : u.pending = s.pending := by
  obtain ⟨b, rfl⟩ := writeStaging_some hu
  rfl

theorem pending_timeoutClass {r : Request} (hu : writeTimeoutClass r s = some u) : u.pending = s.pending := by
  obtain ⟨l, rfl⟩ := writeTimeoutClass_some hu
  rfl

theorem pending_errorSeverity {r : Request} (hu : writeErrorSeverity r s = some u) : u.pending = s.pending := by
  obtain ⟨e, rfl, -⟩ := writeErrorSeverity_some hu
  rfl

theorem pending_quarantineLimit {r : Request} (hu : writeQuarantineLimit r s = some u) : u.pending = s.pending :=
  Option.some.inj (Option.ite_none_left_eq_some.mp hu).2 ▸ rfl

theorem pending_tickPeriod {r : Request} (hu : writeTickPeriod r s = some u) : u.pending = s.pending :=
  Option.some.inj (Option.ite_none_left_eq_some.mp hu).2 ▸ rfl

theorem pending_farSource {r : Request} (hu : writeFarSource r s = some u) : u.pending = s.pending :=
  Option.some.inj (Option.ite_none_right_eq_some.mp hu).2 ▸ rfl

theorem pending_handle (row : MgmtRow) (r : Request) (s : State) : (row.handle r s).1.pending = s.pending := by
  have hP := answerable_pending s.pending
  have hcommand {effect : BitVec 8 → State → Option State}
      (he : ∀ {a u}, effect a s = some u → u.pending = s.pending) : (commandWith effect r s).1.pending = s.pending :=
    hP.commandWith rfl (fun _ _ => he) r
  have hwrite {apply : Request → State → Option State} (ha : ∀ {r u}, apply r s = some u → u.pending = s.pending) :
      (writeWith apply r s).1.pending = s.pending := hP.writeWith rfl (fun _ _ => ha) r
  cases row with
  | swapBanks => exact hP.commandWith_some (f := swapRoles) rfl rfl r
  | copyActiveToStaging => exact hP.commandWith_some (f := copyBank) rfl rfl r
  | quiesce => exact hcommand pending_quiesce
  | resume => exact hcommand pending_resume
  | flushSource => exact hcommand pending_flush
  | softReset => exact hP.commandWith_some (f := softReset) rfl (by simp) r
  | alertAck => exact hcommand pending_alertAck
  | popRecord => exact hcommand pending_popRecord
  | clearRecords => exact hP.commandWith_some (f := clearRecordsEffect) rfl rfl r
  | clearStatus => exact hcommand pending_clearStatus
  | sourceConfiguration => exact hwrite (apply := writeSourceConfig) pending_sourceConfig
  | stagingWindow => exact hwrite (apply := writeStaging) pending_staging
  | timeoutClass => exact hwrite (apply := writeTimeoutClass) pending_timeoutClass
  | quarantineLimit => exact hwrite pending_quarantineLimit
  | tickPeriod => exact hwrite pending_tickPeriod
  | tickRun => exact hwrite (apply := writeTickRun) fun hu => Option.some.inj hu ▸ rfl
  | errorMask => exact hwrite (apply := writeErrorMask) fun hu => Option.some.inj hu ▸ rfl
  | errorSeverity => exact hwrite (apply := writeErrorSeverity) pending_errorSeverity
  | errorControl => exact hwrite (apply := writeErrorControl) fun hu => Option.some.inj hu ▸ rfl
  | alertConfiguration => exact hwrite (apply := writeAlertConfig) fun hu => Option.some.inj hu ▸ rfl
  | farSource => exact hwrite pending_farSource
  | other => exact hP.handleOther rfl r

theorem row_answers_next (row : MgmtRow) (s : State) :
    ∃ t, exec row.command s = .next t ∧ t.pending = s.pending := by
  refine ⟨_, exec_command row s, ?_⟩
  rcases (answerable_pending s.pending).takeRequest rfl fun r => pending_handle row r s with he | ⟨u, hu, he⟩
  · rw [he]
  · simp [he, hu]

end

/-- Settles O2, command by command; a management row by what its handling keeps. -/
theorem everyCommandAnswersNext : Obligations.EveryCommandAnswersNext := by
  intro c s
  cases c with
  | deviceReset strap => exact ⟨_, rfl, rfl⟩
  | rqLinkUp => exact ⟨_, rfl, pending_ite rfl (by simp)⟩
  | rqLinkDown => exact ⟨_, rfl, pending_ite (by simp) rfl⟩
  | rsLinkUp => exact ⟨_, rfl, pending_ite rfl (by simp)⟩
  | rsLinkDown => exact ⟨_, rfl, pending_ite (by simp) rfl⟩
  | rqArrival framing words check => exact rqArrival_answers_next framing words check s
  | rsArrival framing words check => exact rsArrival_answers_next framing words check s
  | creditReturnIndication port byte => exact creditReturn_answers_next port byte s
  | tickEvent => exact ⟨_, rfl, pending_ite (by simp) rfl⟩
  | expiry tag => exact ⟨_, rfl, by simp⟩
  | lapse tag => exact ⟨_, rfl, by simp⟩
  | classification => exact ⟨_, rfl, by simp⟩
  | issue => exact issue_answers_next s
  | issuePlainPosted => exact issuePlainPosted_answers_next s
  | answerPlacement => exact ⟨_, rfl, by simp⟩
  | backlogEntry => exact ⟨_, rfl, by simp⟩
  | malformedAnswerEntry => exact ⟨_, rfl, by simp⟩
  | matcherTake => exact ⟨_, rfl, by simp⟩
  | drainStep source => exact ⟨_, rfl, by simp⟩
  | transmitStep => exact ⟨_, rfl, pending_ite (by simp) rfl⟩
  | halt => exact ⟨_, rfl, by simp⟩
  | prescaledStep => exact ⟨_, rfl, pending_ite (by simp) rfl⟩
  | swapBanks => exact row_answers_next .swapBanks s
  | copyActiveToStaging => exact row_answers_next .copyActiveToStaging s
  | quiesce => exact row_answers_next .quiesce s
  | resume => exact row_answers_next .resume s
  | flushSource => exact row_answers_next .flushSource s
  | softReset => exact row_answers_next .softReset s
  | alertAck => exact row_answers_next .alertAck s
  | popRecord => exact row_answers_next .popRecord s
  | clearRecords => exact row_answers_next .clearRecords s
  | clearStatus => exact row_answers_next .clearStatus s
  | sourceConfigurationWrite => exact row_answers_next .sourceConfiguration s
  | stagingWindowWrite => exact row_answers_next .stagingWindow s
  | timeoutClassWrite => exact row_answers_next .timeoutClass s
  | quarantineLimitWrite => exact row_answers_next .quarantineLimit s
  | tickPeriodWrite => exact row_answers_next .tickPeriod s
  | tickRunWrite => exact row_answers_next .tickRun s
  | errorMaskWrite => exact row_answers_next .errorMask s
  | errorSeverityWrite => exact row_answers_next .errorSeverity s
  | errorControlWrite => exact row_answers_next .errorControl s
  | alertConfigurationWrite => exact row_answers_next .alertConfiguration s
  | farSourceIdWrite => exact row_answers_next .farSource s
  | managementWrite => exact row_answers_next .other s

end Sys2Proof.Machine
end

section
/-! PROOF. The Alert Unit under software: what ALERT_ACK does to a class in each of its states, what a write of the
alert configuration word leaves of a class, and when the far source ID can be written. -/

namespace Sys2Proof.Machine

section

/-! ### The class an argument names (R193) -/

variable {a : BitVec 8} {c : Severity}

theorem classOfArg_eq_ite (a : BitVec 8) : classOfArg a =
    if a.toNat = 1 then some .fatal else if a.toNat = 2 then some .nonfatal
    else if a.toNat = 3 then some .advisory else none := by
  simp only [classOfArg, ← BitVec.toNat_inj]
  rfl

theorem classOfArg_of_named
    (h : (a.toNat = 1 ∧ c = .fatal) ∨ (a.toNat = 2 ∧ c = .nonfatal) ∨ (a.toNat = 3 ∧ c = .advisory)) :
    classOfArg a = some c := by
  rw [classOfArg_eq_ite]
  obtain ⟨ha, rfl⟩ | ⟨ha, rfl⟩ | ⟨ha, rfl⟩ := h <;> rw [ha] <;> rfl

theorem classOfArg_of_unnamed (h : a.toNat = 0 ∨ 3 < a.toNat) : classOfArg a = none := by
  rw [classOfArg_eq_ite, if_neg (by omega), if_neg (by omega), if_neg (by omega)]

theorem alertAck_of_named (h : classOfArg a = some c) (s : State) :
    alertAckEffect a s = some { s with alert := s.alert.ack c s.err.records.length s.err.overflowed } := by
  rw [alertAckEffect, h, Option.map_some]

theorem alertAck_of_unnamed (h : classOfArg a = none) (s : State) : alertAckEffect a s = none := by
  rw [alertAckEffect, h, Option.map_none]

end

section

/-! ### A class that is acknowledged (R164) -/

variable {a : AlertUnit} {c : Severity}

theorem ack_of_idle (h : (a.cls c).state = .idle) (n : Nat) (o : Bool) : a.ack c n o = a := by
  simp only [AlertUnit.ack, h]

theorem ack_of_outstanding (h : (a.cls c).state = .outstanding) (n : Nat) (o : Bool) :
    a.ack c n o = a.setCls c (a.cls c).toIdle := by
  simp only [AlertUnit.ack, h]

theorem ack_of_pending_valid (h : (a.cls c).state = .pending) (hd : a.destValid = true) {k : ErrorKind}
    (hk : (a.cls c).latest = some k) (n : Nat) (o : Bool) :
    a.ack c n o = a.setCls c { a.cls c with state := .outstanding, slot := some (a.build c k n o) } := by
  simp only [AlertUnit.ack, h, hk, if_pos hd]

/-- Without a valid destination the pending mark is dropped, whatever the latest kind. -/
theorem ack_of_pending_invalid (h : (a.cls c).state = .pending) (hd : a.destValid = false) (n : Nat) (o : Bool) :
    a.ack c n o = a.setCls c (a.cls c).toIdle := by
  simp only [AlertUnit.ack, h, hd, Bool.false_eq_true, if_false]
  split
  · rfl
  · rfl

end

/-! ### The alert configuration word (R161, R197) -/

theorem setEnable_eq_enabledClass (x : AlertClass) (on : Bool) : x.setEnable on = enabledClass x on := by
  simp only [AlertClass.setEnable, enabledClass, Bool.and_eq_true, Bool.not_eq_true', AlertClass.toIdle]

theorem sourceId_extract (v : Word) : (v.extractLsb' 0 5).toFin = Fin.ofNat 32 v.toNat :=
  Fin.ext ((toNat_extract v 0 5).trans (by rw [Nat.pow_zero, Nat.div_one]; rfl))

/-! ### The far source ID (R184) -/

theorem isQuarantined_iff {x : TagState} : x.isQuarantined = true ↔ ∃ q, x = .quarantined q := by
  cases x <;> simp [TagState.isQuarantined]

theorem anyQuarantined_iff (s : State) :
    s.anyQuarantined = true ↔ ∃ g q, getAt s.tags g = .quarantined q := by
  simp [State.anyQuarantined, toList_eq_map_getAt, isQuarantined_iff]

theorem anyQuarantined_eq_false_iff (s : State) :
    s.anyQuarantined = false ↔ ∀ g q, getAt s.tags g ≠ .quarantined q := by
  rw [← Bool.not_eq_true, anyQuarantined_iff]
  simp only [not_exists, ne_eq]

/-! ### The statements -/

/-- Settles O42, by whether the argument names a class and by that class's state. -/
theorem alertAckByClassState : Obligations.AlertAckByClassState := fun r rest v s h hc => by
  have hrow := row_command h hc
  have harg := arg_of v
  refine ⟨fun hnone => congrArg Host.Outcome.next ?_, fun c hsome => ?_⟩
  · exact taken_command_refused h hrow (alertAck_of_unnamed (classOfArg_of_unnamed (harg ▸ hnone)) s)
  · have hack : ∀ {b : AlertUnit}, s.alert.ack c s.err.records.length s.err.overflowed = b →
        exec .alertAck s = .next (answered r rest .done (shown v false { s with alert := b })) := fun hb =>
      congrArg Host.Outcome.next
        (taken_command_accepted h hrow (hb ▸ alertAck_of_named (classOfArg_of_named (harg ▸ hsome)) s))
    exact ⟨fun hidle => hack (ack_of_idle hidle _ _), fun hout => hack (ack_of_outstanding hout _ _),
      fun hpend hd => hack (ack_of_pending_invalid hpend hd _ _),
      fun k hpend hd hk => hack (ack_of_pending_valid hpend hd hk _ _)⟩

/-- Settles O49, word by word; the far source ID by what its rule requires. -/
theorem alertConfigurationAndFarSourceWrites : Obligations.AlertConfigurationAndFarSourceWrites := fun r rest v s => by
  refine ⟨fun h => ?_, fun h => ?_⟩
  · obtain ⟨hw, hk⟩ := h.addresses (w := .alertConfig) (by decide)
    have hrow : r.row = .alertConfiguration := by simp [Request.row, hw, hk]
    refine congrArg Host.Outcome.next (taken_write_accepted h hrow ?_)
    simp only [writeAlertConfig, AlertUnit.configure, h.value, sourceId_extract, setEnable_eq_enabledClass]
  · obtain ⟨hw, hk⟩ := h.addresses (w := .farSource) (by decide)
    have hrow : r.row = .farSource := by simp [Request.row, hw, hk]
    refine ⟨fun hq hfree => congrArg Host.Outcome.next ?_, fun hbad => congrArg Host.Outcome.next ?_⟩
    · refine taken_write_accepted h hrow ?_
      rw [writeFarSource, if_pos ⟨hq, (anyQuarantined_eq_false_iff s).mpr hfree⟩, h.value, sourceId_extract]
    · refine taken_write_refused h hrow (if_neg fun ⟨hq, hfree⟩ => ?_)
      obtain ⟨g, q, hg⟩ := hbad.resolve_left (not_not_intro hq)
      exact (anyQuarantined_eq_false_iff s).mp hfree g q hg

end Sys2Proof.Machine
end

section
/-! PROOF. Device reset: the value of each table it fills, and the whole invariant. -/

namespace Sys2Proof.Machine

/-! ### The Error Unit's items after device reset (R139) -/

theorem getAt_defaultItems (i : Fin 20) :
    getAt defaultItems i = { status := false, mask := false, severity := getAt defaultSeverities i } := by
  revert i
  decide

theorem item_atReset (k : ErrorKind) :
    ErrorUnit.atReset.item k = { status := false, mask := false, severity := getAt defaultSeverities k.index } :=
  getAt_defaultItems k.index

theorem getAt_sources_deviceReset (n : SourceId) (s : State) (m : SourceId) :
    getAt (deviceReset n s).sources m = if m = n then SourceEntry.bootstrap else SourceEntry.unset := by
  show getAt (putAt (fillTable 32 SourceEntry.unset) n SourceEntry.bootstrap) m = _
  rw [getAt_putAt, getAt_fillTable]
  exact if_congr eq_comm rfl rfl

theorem getAt_banks_deviceReset (n : SourceId) (s : State) (b : Fin 2) (w : Fin 16) :
    getAt (getAt (deviceReset n s).banks b) w = Window.unset := by
  show getAt (getAt (fillTable 2 (fillTable 16 Window.unset)) b) w = _
  rw [getAt_fillTable, getAt_fillTable]

theorem inv_deviceReset (n : SourceId) (s : State) : Inv (deviceReset n s) where
  bounded := (settled_deviceReset n s).bounded
  loaded := (legal_deviceReset n s).loaded
  sorted := (legal_deviceReset n s).sorted
  head := (upheld_deviceReset n s).head
  records := (legal_deviceReset n s).records
  order := (settled_deviceReset n s).order
  waits := (settled_deviceReset n s).waits
  states := (upheld_deviceReset n s).states
  links := (upheld_deviceReset n s).links
  alerts := (upheld_deviceReset n s).alerts

/-- Settles O54: `State.reset` is what a device reset makes of itself. -/
theorem invariantAfterDeviceReset : Obligations.InvariantAfterDeviceReset :=
  ⟨inv_deviceReset Config.strapAtReset State.reset, fun n s => ⟨deviceReset n s, rfl, inv_deviceReset n s⟩⟩

/-- Settles O4, table by table. -/
theorem deviceResetValues : Obligations.DeviceResetValues := by
  intro n s
  refine ⟨deviceReset n s, rfl, rfl, rfl, rfl, rfl, rfl, rfl, rfl, rfl, getAt_sources_deviceReset n s,
    getAt_banks_deviceReset n s, rfl, rfl, rfl, rfl, rfl, rfl, rfl, rfl, getAt_tags_deviceReset n s, rfl, rfl, rfl,
    fun l => getAt_fillTable 64 _ l, fun m => getAt_fillTable 32 _ m, rfl, rfl, rfl, rfl, rfl, rfl, rfl, rfl, rfl,
    fun k => ?items, fun k => ?fatal, fun k => ?advisory, rfl, rfl, rfl, rfl, rfl, rfl, rfl, rfl, rfl, rfl, rfl⟩
  all_goals rw [show (deviceReset n s).err.item k = _ from item_atReset k]
  case items => exact ⟨rfl, rfl⟩
  case fatal => cases k <;> decide
  case advisory => cases k <;> decide

end Sys2Proof.Machine
end

section
/-! PROOF. The Management Agent's taking step on a request that fails a check or is poisoned. -/

namespace Sys2Proof.Machine

section

variable {s : State} {r : Request} {rest : List Request} {row : MgmtRow} {st : Status}
  {handle : Request → State → State × Answer}

theorem takeRequest_of_empty (hq : s.mgmtQueue = []) (row : MgmtRow) (handle : Request → State → State × Answer) :
    takeRequest row handle s = s := by
  simp only [takeRequest, hq]

theorem takeRequest_of_other_row (hq : s.mgmtQueue = r :: rest) (hrow : row ≠ r.row)
    (handle : Request → State → State × Answer) : takeRequest row handle s = s := by
  simp [takeRequest, hq, hrow.symm]

theorem canTake_iff : s.canTake r = true ↔ r.kind = .write ∨ s.mgmtSlots.length < 2 := by
  simp [State.canTake, Config.responseSlots]

theorem takeRequest_of_no_slot (hq : s.mgmtQueue = r :: rest) (hk : r.kind ≠ .write) (hfull : 2 ≤ s.mgmtSlots.length)
    (row : MgmtRow) (handle : Request → State → State × Answer) : takeRequest row handle s = s := by
  have hno : s.canTake r = false := by
    rw [← Bool.not_eq_true, canTake_iff]
    exact fun h => h.elim hk (Nat.not_lt.mpr hfull)
  simp [takeRequest, hq, hno]

/-- A request that is refused, by a check or by its row, has no effect but its refusal (R172, R174). -/
theorem takeRequest_of_refuse (hq : s.mgmtQueue = r :: rest) (hslot : r.kind = .write ∨ s.mgmtSlots.length < 2)
    (hout : carryOut handle r s = refuse r st s) : takeRequest r.row handle s = refusedWith r rest st s := by
  have hsame : SameIssue s (report .mgmtRefused none (headerIdent r) s) := by constructor <;> simp
  simp only [takeRequest, hq, decide_true, canTake_iff.mpr hslot, Bool.and_self, if_true, hout]
  rw [finish_place r rest _ _ ((show (refuse r st s).1.mgmtQueue = s.mgmtQueue from hsame.mgmtQueue).trans hq)]
  exact hsame.issueAfter_answered r rest (.fail st)

theorem carryOut_of_checkFailure (h : s.checkFailure r = some st) (handle : Request → State → State × Answer) :
    carryOut handle r s = refuse r st s := by
  simp only [carryOut, h]

theorem carryOut_of_passed (h : s.checkFailure r = none) (handle : Request → State → State × Answer) :
    carryOut handle r s = handle r s := by
  simp only [carryOut, h]

/-! ### The checks, in their order (R172) -/

theorem checkFailure_denied
    (h : (getAt s.sources r.source).valid = false ∨ (getAt s.sources r.source).permission = false) :
    s.checkFailure r = some .denied := by
  have hno : ((getAt s.sources r.source).valid && (getAt s.sources r.source).permission) = false :=
    Bool.and_eq_false_iff.mpr h
  simp [State.checkFailure, hno]

variable (hv : (getAt s.sources r.source).valid = true) (hp : (getAt s.sources r.source).permission = true)

include hv hp

theorem checkFailure_malformed (hlen : r.length ≠ 1) : s.checkFailure r = some .malformed := by
  simp [State.checkFailure, hv, hp, hlen]

theorem checkFailure_unsupported (hlen : r.length = 1) (hw : r.word = none) :
    s.checkFailure r = some .unsupported := by
  simp [State.checkFailure, hv, hp, hlen, hw]

end

/-! ### Poisoned writes (R174) -/

section

variable {r : Request} {s : State}

theorem writeWith_of_poison (h : r.poison = true) (apply : Request → State → Option State) (s : State) :
    writeWith apply r s = refuse r .denied s := if_pos h

theorem commandWith_of_poison (h : r.poison = true) (effect : BitVec 8 → State → Option State) (s : State) :
    commandWith effect r s = refuse r .denied s := if_pos h

theorem handleOther_of_write (hk : r.kind ≠ .read) (hw : r.word ≠ some .command) (s : State) :
    handleOther r s = refuse r .denied s := by
  unfold handleOther
  split
  · next hread _ => exact absurd hread hk
  · next hcmd _ => exact absurd hcmd hw
  · rfl

theorem handleOther_of_command (hk : r.kind ≠ .read) (hw : r.word = some .command) (s : State) :
    handleOther r s = commandWith (fun _ _ => none) r s := by
  unfold handleOther
  split
  · next hread _ => exact absurd hread hk
  · rfl
  · next hcmd _ => exact absurd hw hcmd

/-- A row is a command, a write, or the row of every other request (R174, R175). -/
theorem handle_cases (row : MgmtRow) :
    (∃ effect, row.handle = commandWith effect) ∨ (∃ apply, row.handle = writeWith apply) ∨ row = .other := by
  cases row with
  | swapBanks | copyActiveToStaging | quiesce | resume | flushSource | softReset | alertAck | popRecord | clearRecords
  | clearStatus =>
    rw [MgmtRow.handle]
    exact .inl ⟨_, rfl⟩
  | sourceConfiguration | stagingWindow | timeoutClass | quarantineLimit | tickPeriod | tickRun | errorMask
  | errorSeverity | errorControl | alertConfiguration | farSource =>
    rw [MgmtRow.handle]
    exact .inr (.inl ⟨_, rfl⟩)
  | other => exact .inr (.inr rfl)

theorem handle_of_poison (hk : r.kind ≠ .read) (h : r.poison = true) (row : MgmtRow) (s : State) :
    row.handle r s = refuse r .denied s := by
  rcases handle_cases row with ⟨effect, hrow⟩ | ⟨apply, hrow⟩ | rfl
  · rw [hrow, commandWith_of_poison h]
  · rw [hrow, writeWith_of_poison h]
  · show handleOther r s = _
    by_cases hw : r.word = some .command
    · rw [handleOther_of_command hk hw, commandWith_of_poison h]
    · exact handleOther_of_write hk hw s

end

/-- Settles O51, check by check. -/
theorem managementChecks : Obligations.ManagementChecks := by
  intro s
  refine ⟨fun hq row => ?_, fun r rest hq => ⟨fun row hrow => ?_, fun hk hfull => ?_, fun hslot => ?_,
    fun off h hk hpoison => ?_⟩⟩
  · rw [exec_command, takeRequest_of_empty hq]
  · rw [exec_command, takeRequest_of_other_row hq hrow]
  · rw [exec_command, takeRequest_of_no_slot hq hk hfull]
  · have hrefused {st : Status} (hc : s.checkFailure r = some st) :
        exec r.row.command s = .next (refusedWith r rest st s) := by
      rw [exec_command, takeRequest_of_refuse hq hslot (carryOut_of_checkFailure hc _)]
    exact ⟨fun h => hrefused (checkFailure_denied h), fun hv hp =>
      ⟨fun hlen => hrefused (checkFailure_malformed hv hp hlen),
        fun hlen hw => hrefused (checkFailure_unsupported hv hp hlen hw)⟩⟩
  · have hout := (carryOut_of_passed h.checkFailure r.row.handle).trans (handle_of_poison hk hpoison r.row s)
    rw [exec_command, takeRequest_of_refuse hq h.slot hout]

end Sys2Proof.Machine
end

section
/-! PROOF. The operating state: HALT with its teardown, QUIESCE and RESUME. -/

namespace Sys2Proof.Machine

section

variable {s u : State}

/-! ### HALT (R16, R43, R180) -/

/-- Whether a halt request waits makes no producer ready (R131). -/
theorem distribute_setHaltRequested (b : Bool) (s u : State) :
    distribute { s with haltRequested := b } u = distribute s u := by
  have hready : madeReady { s with haltRequested := b } u = madeReady s u := by
    funext k
    unfold madeReady
    cases Producer.at k <;> rfl
  rw [distribute, hready, distribute]

theorem haltPhase_eq (q : List Waiting) (p : HeadPhase) :
    haltPhase q p = match q, p with
      | [], _ => .new
      | _ :: _, .new => .new
      | w :: _, _ => if w.req.kind = .write then .new else .answering .halted := by
  cases q with
  | nil => rfl
  | cons w q =>
    cases p with
    | new => exact ite_self _
    | classified c => rfl
    | answering st => rfl

theorem haltQueue_eq (s : State) : haltQueue s = { s with
    forwardQueue := markHalted s.forwardQueue
    headPhase := haltPhase s.forwardQueue s.headPhase
    rqWire := s.rqSent 0x85#8 (s.forwardQueue.countP fun w => decide (w.req.kind = .write)) } :=
  returnRqCredits_eq _ _ _

/-- HALTED is entered, the halt request taken. -/
def State.halting (s : State) : State := { s with haltRequested := false, opState := .halted }

/-- Every entry has been answered HALTED (R16). -/
def State.haltEnded (s : State) : State := terminateAll (fun _ => true) (some .halted) .quarantined s.halting

theorem haltEnded_keeps (s : State) :
    s.haltEnded.opState = .halted ∧ s.haltEnded.forwardQueue = s.forwardQueue ∧
      s.haltEnded.headPhase = s.headPhase := by
  have hended : s.haltEnded.forwardQueue = s.halting.forwardQueue ∧ s.haltEnded.headPhase = s.halting.headPhase := by
    simp [State.haltEnded]
  exact ⟨(opState_terminateAll _ _ _).trans (if_neg nofun), hended⟩

theorem exec_halt_of_entering (hr : s.haltRequested = true) (ho : s.opState ≠ .halted) :
    exec .halt s = .next (distribute s (haltQueue s.haltEnded)) := by
  have hdist := distribute_setHaltRequested false s (haltQueue s.haltEnded)
  exact congrArg Host.Outcome.next (((if_pos hr).trans (if_neg ho)).trans hdist)

/-! ### A command after which no head can be issued (R37) -/

theorem issueAfter_of_not_issuable (h : u.issuable = none) (before : State) : issueAfter before u = u := by
  unfold issueAfter
  rw [issueNow_of_not_issuable h, ite_self]

theorem not_issuable_of_not_run (h : s.opState ≠ .run) : s.issuable = none := by
  refine Option.eq_none_iff_forall_ne_some.mpr fun ⟨q, c, g⟩ hi => ?_
  obtain ⟨-, -, -, -, -, ho, -⟩ := issuable_eq_some_iff.mp hi
  exact h ho

theorem taken_command_not_issuable {r : Request} {rest : List Request} {v : Word} {row : MgmtRow}
    {effect : BitVec 8 → State → Option State} (h : WriteTaken s r rest 4 v) (hr : r.row = row)
    (he : effect (commandArgOf v) s = some u) (hq : u.mgmtQueue = s.mgmtQueue) (hn : u.issuable = none) :
    takeRequest row (commandWith effect) s = answered r rest .done (shown v false u) := by
  have hsame : (answered r rest .done (shown v false u)).issuable = u.issuable :=
    issuable_congr rfl rfl rfl rfl rfl rfl rfl rfl
  exact (takeRequest_command h row hr effect u he hq).trans (issueAfter_of_not_issuable (hsame.trans hn) s)

/-! ### The fatal condition (R154) -/

/-- The error kinds at their positions (R139). -/
def errorKinds : Table ErrorKind 20 :=
  #v[.integrityRq, .integrityRs, .creditOverrunRq, .creditOverrunRs, .malformedRequest, .unknownSource, .noWindow,
    .accessDenied, .mgmtRefused, .quotaRetry, .responseTimeout, .lateResponse, .unexpectedResponse, .responseMismatch,
    .poisonedData, .absorbedWriteFailed, .linkDownRq, .linkDownRs, .discardedWrite, .malformedResponse]

theorem index_errorKinds (i : Fin 20) : (getAt errorKinds i).index = i := by
  revert i
  decide

theorem fatalCondition_iff (e : ErrorUnit) : e.fatalCondition = true ↔
    ∃ k, (e.item k).status = true ∧ (e.item k).mask = false ∧ (e.item k).severity = .fatal := by
  have hpos : e.fatalCondition = true ↔ ∃ i, (getAt e.items i).status = true ∧ (getAt e.items i).mask = false ∧
      (getAt e.items i).severity = .fatal := by
    simp [ErrorUnit.fatalCondition, toList_eq_map_getAt, and_assoc]
  rw [hpos]
  constructor
  · rintro ⟨i, h⟩
    exact ⟨getAt errorKinds i, by rwa [ErrorUnit.item, index_errorKinds]⟩
  · rintro ⟨k, h⟩
    exact ⟨k.index, h⟩

/-! ### RESUME (R42, R179) -/

/-- Where RESUME is carried out: in every state but RUN, and HALTED while the fatal condition holds (R154). -/
theorem resumeEffect_of_stopped (ho : s.opState ≠ .run) (hf : s.opState = .halted → s.err.fatalCondition = false) :
    resumeEffect s = some (resumeRun s) := by
  unfold resumeEffect
  split
  · next h => exact absurd h ho
  · rfl
  · rfl
  · next h => rw [hf h]; rfl

/-- RUN is entered. -/
def State.running (s : State) : State := { s with opState := .run }

theorem linkDownClassified_of_up (h : s.rsLink = .up) : linkDownClassified s = s := by
  unfold linkDownClassified
  split
  · simp [h]
  · rfl

theorem resumeRun_of_kept (h : s.rsLink = .up ∨ ∀ c, s.headPhase ≠ .classified c) : resumeRun s = s.running :=
  h.elim (fun hup => linkDownClassified_of_up (s := s.running) hup) fun hp =>
    linkDownClassified_other (s := s.running) (.inl hp)

theorem resumeRun_of_stranded {w : Waiting} {rest : List Waiting} {c : Classified} (hs : HeadSound s)
    (hq : s.forwardQueue = w :: rest) (hp : s.headPhase = .classified c) (hl : s.rsLink = .down) :
    resumeRun s = strandedHead w rest s.running :=
  (linkDownClassified_classified (s := s.running) hq hp (hs.unmarked w rest c hq hp).1 rfl hl).trans
    (linkDownHead_eq (s := s.running) hq (hs.cls w rest c hq hp))

theorem strandedHead_phase (w : Waiting) (rest : List Waiting) (s : State) (c : Classified) :
    (strandedHead w rest s).headPhase ≠ .classified c := by
  unfold strandedHead
  split
  · exact nofun
  · exact nofun

theorem strandedHead_mgmtQueue (w : Waiting) (rest : List Waiting) (s : State) :
    (strandedHead w rest s).mgmtQueue = s.mgmtQueue := by
  unfold strandedHead
  split
  · simp [headGone]
  · rfl

end

/-! ### The statements -/

/-- Settles O39, by the operating state, and RESUME by what the head finds. -/
theorem quiesceAndResume : Obligations.QuiesceAndResume := by
  intro r rest v s h fatal
  refine ⟨fun hc => ?quiesce, fun hc => ?resume⟩
  case quiesce =>
    have hrow : r.row = .quiesce := row_command h hc
    refine ⟨fun ho => congrArg Host.Outcome.next ?_, fun ho => congrArg Host.Outcome.next ?_,
      fun ho => congrArg Host.Outcome.next ?_⟩
    · refine taken_command_not_issuable (effect := fun _ s => quiesceEffect s) h hrow
        (by simp only [quiesceEffect, ho]) rfl (not_issuable_of_not_run ?_)
      show (if s.activeTags = 0 then OpState.quiesced else .quiescing) ≠ .run
      split
      · exact nofun
      · exact nofun
    · refine taken_command_accepted (effect := fun _ s => quiesceEffect s) h hrow ?_
      rcases ho with ho | ho <;> simp only [quiesceEffect, ho]
    · exact taken_command_refused (effect := fun _ s => quiesceEffect s) h hrow (by simp only [quiesceEffect, ho])
  case resume =>
    have hrow : r.row = .resume := row_command h hc
    refine ⟨fun ho => congrArg Host.Outcome.next ?_, fun ho hf => congrArg Host.Outcome.next ?_, fun ho hf => ?_⟩
    · exact taken_command_accepted (effect := fun _ s => resumeEffect s) h hrow (by simp only [resumeEffect, ho])
    · refine taken_command_refused (effect := fun _ s => resumeEffect s) h hrow ?_
      simp only [resumeEffect, ho, (fatalCondition_iff s.err).mpr hf, if_true]
    · have heffect := resumeEffect_of_stopped ho fun hh =>
        Bool.eq_false_iff.mpr (mt (fatalCondition_iff s.err).mp (hf hh))
      refine ⟨fun hkeep => congrArg Host.Outcome.next ?_, fun w more c hs hq hp hl => congrArg Host.Outcome.next ?_⟩
      · rw [resumeRun_of_kept hkeep] at heffect
        exact takeRequest_command h _ hrow (fun _ s => resumeEffect s) _ heffect rfl
      · rw [resumeRun_of_stranded hs hq hp hl] at heffect
        exact taken_command_not_issuable (effect := fun _ s => resumeEffect s) h hrow heffect
          (strandedHead_mgmtQueue w more s.running) (not_issuable_of_phase (strandedHead_phase w more s.running))

end Sys2Proof.Machine

namespace Sys2Proof

open Machine

/-- Settles O37: the entries first, then the Forward Queue. -/
theorem haltTeardown : Obligations.HaltTeardown := by
  intro s
  refine ⟨fun hr => congrArg Host.Outcome.next (if_neg (by simp [hr])), fun hr ho => ?_, fun hr ho => ?_⟩
  · exact congrArg Host.Outcome.next ((if_pos hr).trans (if_pos ho))
  · obtain ⟨hop, hqueue, hphase⟩ := haltEnded_keeps s
    refine ⟨s.haltEnded, terminated_terminateAll (fun _ => true) .halted .quarantined s.halting, hop, ?_⟩
    rw [exec_halt_of_entering hr ho, haltQueue_eq, hqueue, hphase, haltPhase_eq]
    rfl

end Sys2Proof
end

section
/-! PROOF. SOFT_RESET: the queues, the tags, the lists and the counts cleared, and the credits returned for them. -/

namespace Sys2Proof.Machine

/-! ### The parts of a soft reset (R182) -/

/-- The slots of the Malformed Answer List's answers are freed one after another (R127). -/
theorem foldl_returnRqCredits (l : List MalformedAnswer) (s : State) :
    l.foldl (fun s a => returnRqCredits a.pool 1 s) s = { s with
      rqWire := if s.rqLink = .up then s.rqWire ++ l.map fun a => .indication (returnByte a.pool) else s.rqWire } := by
  induction l generalizing s with
  | nil => simp
  | cons a l ih =>
    rw [List.foldl_cons, returnRqCredits_eq, ih, State.rqSent]
    by_cases hup : s.rqLink = .up
    · simp [hup]
    · simp [hup]

/-- The Forward Queue emptied, its credits returned. -/
def State.emptied (s : State) : State := { s with
  forwardQueue := [], headPhase := .new, rqWire := s.rqSent 0x85#8 s.forwardQueue.length }

theorem emptied_eq (s : State) :
    returnRqCredits .ordinary s.forwardQueue.length { s with forwardQueue := [], headPhase := .new } = s.emptied :=
  returnRqCredits_eq _ _ _

/-- Every tag FREE and the Answer Backlog emptied. -/
def State.unanswered (s : State) : State := { s.allFree with backlog := [] }

theorem unanswered_keeps (s : State) : s.unanswered.sources = s.sources ∧ s.unanswered.tags = fillTable 64 .free :=
  ⟨rfl, rfl⟩

theorem OnlyDropped.unanswered {s u : State} (h : OnlyDropped s u) :
    OnlyDropped { s with backlog := [] } u.unanswered :=
  congrArg State.unanswered h

/-- Every entry has ended without an answer, every tag is FREE and every count 0. -/
def State.softCleared (s : State) : State :=
  clearCounts (terminateAll (fun _ => true) none .free s.emptied).unanswered

theorem onlyDropped_softCleared (s : State) : OnlyDropped { s.emptied with backlog := [] } s.softCleared :=
  (onlyDropped_terminateAll _ _ _).unanswered.trans (onlyDropped_clearCounts _)

theorem tags_softCleared (s : State) : s.softCleared.tags = fillTable 64 .free := by
  simp [State.softCleared, unanswered_keeps]

theorem getAt_sources_softCleared (s : State) (n : SourceId) :
    getAt s.softCleared.sources n = { getAt s.sources n with count := 0 } := by
  rw [State.softCleared, getAt_sources_clearCounts, (unanswered_keeps _).1]
  exact (tame_terminateAll (fun _ => true) none .free s.emptied).configuration n

/-- The ingress buffer emptied, its credits returned. -/
def State.ingressEmptied (s : State) : State := returnRsCredits s.ingress.length { s with ingress := [] }

/-- The lists and the ingress buffer emptied. -/
def State.drainedIn (s : State) : State := (clearLists s).ingressEmptied

theorem drainedIn_eq (s : State) : s.drainedIn = { s with
    slots := fillTable 64 none, lists := fillTable 32 [], ingress := [], rsWire := s.rsSent s.ingress.length } :=
  returnRsCredits_eq _ _

/-- The queues toward the requesters emptied, and the state QUIESCED. -/
def State.quieted (s : State) : State :=
  { s with trafficQueue := [], malformedList := [], opState := .quiesced }

/-- A soft reset part by part. -/
theorem softReset_eq_foldl (s : State) : softReset s =
    s.softCleared.drainedIn.malformedList.foldl (fun s a => returnRqCredits a.pool 1 s)
      s.softCleared.drainedIn.quieted := by
  unfold softReset
  extract_lets s1 s2 s3 s4 freed s5
  have hcleared : s3 = clearLists s.softCleared := by
    rw [State.softCleared, State.unanswered, ← freeQuarantined_terminateAll, ← emptied_eq]
  have hdrained : s4 = s.softCleared.drainedIn := congrArg State.ingressEmptied hcleared
  generalize s.softCleared.drainedIn = u at hdrained
  clear_value s4
  subst hdrained
  rfl

theorem softReset_eq (s : State) : softReset s = { s with
    opState := .quiesced, forwardQueue := [], headPhase := .new, backlog := [], sources := s.softCleared.sources
    tags := fillTable 64 .free, lists := fillTable 32 [], slots := fillTable 64 none
    ingress := [], trafficQueue := [], malformedList := []
    rqWire :=
      if s.rqLink = .up then
        s.rqWire ++ List.replicate s.forwardQueue.length (.indication 0x85#8)
          ++ s.malformedList.map fun a => .indication (returnByte a.pool)
      else s.rqWire
    rsWire := s.rsSent s.ingress.length } := by
  have hcleared := onlyDropped_softCleared s
  have htags := tags_softCleared s
  rw [softReset_eq_foldl, foldl_returnRqCredits, drainedIn_eq, State.quieted]
  generalize s.softCleared = c at hcleared htags ⊢
  rw [OnlyDropped, htags] at hcleared
  rw [hcleared]
  by_cases hup : s.rqLink = .up
  · simp [State.emptied, State.rqSent, State.rsSent, hup]
  · simp [State.emptied, State.rqSent, State.rsSent, hup]

/-- Settles O41: no head is left that the end of the step could issue. -/
theorem softResetEmptiesThePart : Obligations.SoftResetEmptiesThePart := by
  intro r rest v s h hc
  have hidle : (softReset s).issuable = none := not_issuable_of_empty (by rw [softReset_eq])
  have htaken := taken_command_not_issuable (effect := fun _ s => some (softReset s)) h (row_command h hc) rfl
    (by simp) hidle
  rw [softReset_eq] at htaken
  exact ⟨s.softCleared.sources, getAt_sources_softCleared s, congrArg Host.Outcome.next htaken⟩

end Sys2Proof.Machine
end

section
/-! PROOF. FLUSH_SOURCE: the entries and the elements of one source leave one after another, and nothing of another
source's goes with them. -/

namespace Sys2Proof.Machine

/-! ### What leaves with one source (R17, R44, R100) -/

/-- `u` is `s` with some of source `n`'s entries and elements gone, and its count changed. -/
structure Flushing (n : SourceId) (s u : State) : Prop where
  only : OnlyDropped s u
  entries : ∀ g r, getAt u.tags g = .active r → getAt s.tags g = .active r
  sources : putAt u.sources n { getAt u.sources n with count := 0 } =
    putAt s.sources n { getAt s.sources n with count := 0 }
  lists : putAt u.lists n [] = putAt s.lists n []
  kept : ∀ l, l ∉ getAt s.lists n → getAt u.slots l = getAt s.slots l
  gone : ∀ l, l ∈ getAt s.lists n → l ∈ getAt u.lists n ∨ getAt u.slots l = none
  listed : ∀ l, l ∈ getAt u.lists n → l ∈ getAt s.lists n

section

variable {n : SourceId} {l : SlotId} {s u : State}

theorem Flushing.refl (n : SourceId) (s : State) : Flushing n s s :=
  ⟨rfl, fun _ _ h => h, rfl, rfl, fun _ _ => rfl, fun _ h => .inl h, fun _ h => h⟩

theorem Flushing.mapCount (h : Flushing n s u) (f : Nat → Nat) : Flushing n s (mapCount n f u) where
  only := h.only.trans rfl
  entries := h.entries
  sources := by
    rw [← h.sources]
    simp [Machine.mapCount, putAt_putAt_self]
  lists := h.lists
  kept := h.kept
  gone := h.gone
  listed := h.listed

theorem Flushing.removeElement (h : Flushing n s u) (hl : l ∈ getAt s.lists n) :
    Flushing n s (removeElement n l u) where
  only := h.only.trans rfl
  entries := h.entries
  sources := h.sources
  lists := by
    rw [← h.lists]
    exact putAt_putAt_self _ _ _ _
  kept k hk := by
    have hne : l ≠ k := fun e => hk (e ▸ hl)
    rw [getAt_slots_removeElement, if_neg hne]
    exact h.kept k hk
  gone k hk := by
    rw [getAt_slots_removeElement, getAt_lists_removeElement, if_pos rfl]
    by_cases hne : l = k
    · exact .inr (if_pos hne)
    · rw [if_neg hne, List.mem_erase_of_ne (Ne.symm hne)]
      exact h.gone k hk
  listed k hk := by
    rw [getAt_lists_removeElement, if_pos rfl] at hk
    exact h.listed k (List.mem_of_mem_erase hk)

theorem Flushing.leaveActive (h : Flushing n s u) (g : PoolTag) {x : TagState} (hx : x.isActive = false) :
    Flushing n s (leaveActive g x u) where
  only := h.only.trans (onlyDropped_leaveActive g x u)
  entries k r hr := by
    rw [leaveActive_tags, getAt_putAt] at hr
    split at hr
    · rw [hr] at hx
      exact nomatch hx
    · exact h.entries k r hr
  sources := by simpa using h.sources
  lists := by simpa using h.lists
  kept := by simpa using h.kept
  gone := by simpa using h.gone
  listed := by simpa using h.listed

/-- The entry that is ended is one of source `n`'s, and so is its element (R88). -/
theorem Flushing.answerEntry (h : Flushing n s u) (ho : OrderSound s) {g : PoolTag} {r : ActiveRec}
    (hr : getAt u.tags g = .active r) (hn : r.source = n) : Flushing n s (answerEntry r none u) := by
  unfold Machine.answerEntry
  split
  · exact h
  · cases hl : r.link with
    | none => exact hn ▸ h.mapCount _
    | some l =>
      have hmem := (ho.entry g r l (h.entries g r hr) hl).1
      subst hn
      exact (h.removeElement hmem).mapCount _

/-- The entries of source `n` that FLUSH_SOURCE ends (R17). -/
def flushed (n : SourceId) (r : ActiveRec) : Bool := r.counted && decide (r.source = n)

theorem flushed_iff (n : SourceId) (r : ActiveRec) : flushed n r = true ↔ r.absorbed = false ∧ r.source = n := by
  simp [flushed, ActiveRec.counted]

theorem Flushing.terminateAll (ho : OrderSound s) (dest : TagDest) :
    Flushing n s (terminateAll (flushed n) none dest s) := by
  rw [terminateAll_eq_foldl]
  refine List.foldlRecOn _ _ (.refl n s) fun u h g _ => ?_
  unfold terminatePicked
  split
  · next r hr =>
    split
    · next hw =>
      simp only [terminate, hr]
      exact (h.answerEntry ho hr ((flushed_iff n r).mp hw).2).leaveActive g (destState_inactive u r dest)
    · exact h
  · exact h

theorem Flushing.flushList (h : Flushing n s u) :
    Flushing n s (flushList n u) ∧ getAt (flushList n u).lists n = [] := by
  unfold Machine.flushList
  generalize hls : getAt u.lists n = ls
  induction ls generalizing u with
  | nil => exact ⟨h, hls⟩
  | cons l ls ih =>
    refine ih (h.removeElement (h.listed l (by simp [hls]))) ?_
    rw [getAt_lists_removeElement, if_pos rfl, hls, List.erase_cons_head]

end

/-! ### The blocks together (R176) -/

/-- Source `n`'s requests have left the Forward Queue, their credits returned (R44). -/
theorem flushQueue_eq (n : SourceId) (s : State) : flushQueue n s = { s with
    forwardQueue := s.forwardQueue.filter fun w => decide (w.req.source ≠ n)
    headPhase := flushPhase n s.forwardQueue s.headPhase
    rqWire := s.rqSent 0x85#8 (s.forwardQueue.countP fun w => decide (w.req.source = n)) } :=
  returnRqCredits_eq _ _ _

/-- Source `n`'s entries have ended without an answer. -/
def State.flushEnded (n : SourceId) (s : State) : State := terminateAll (flushed n) none .quarantined (flushQueue n s)

/-- Source `n`'s elements have left too. -/
def State.flushDropped (n : SourceId) (s : State) : State := flushList n (s.flushEnded n)

/-- Source `n`'s answers leave the backlog, and its count is 0 (R17). -/
def State.flushCleared (n : SourceId) (s : State) : State :=
  { s with
    backlog := s.backlog.filter fun a => decide (a.source ≠ n)
    sources := putAt s.sources n { getAt s.sources n with count := 0 } }

theorem flushSource_eq_cleared (n : SourceId) (s : State) :
    flushSource n s = (s.flushDropped n).flushCleared n := by
  unfold flushSource
  extract_lets s1 s2
  have hdropped : s2 = s.flushDropped n := rfl
  generalize s.flushDropped n = u at hdropped
  clear_value s2
  subst hdropped
  rfl

section

variable {s : State}

theorem flushing_flushDropped (ho : OrderSound s) (n : SourceId) :
    Flushing n (flushQueue n s) (s.flushDropped n) ∧ getAt (s.flushDropped n).lists n = [] :=
  Flushing.flushList (.terminateAll (ho.frame (by simp) fun m => by simp) .quarantined)

theorem flushDropped_keeps (n : SourceId) (s : State) :
    (s.flushDropped n).tags = (s.flushEnded n).tags ∧ (s.flushDropped n).opState = (s.flushEnded n).opState := by
  simp [State.flushDropped]

/-- The slots of source `n`'s list are free, and every other slot is as it was. -/
theorem slots_flushDropped (ho : OrderSound s) (n : SourceId) :
    (∀ l, l ∈ getAt s.lists n → getAt (s.flushDropped n).slots l = none) ∧
      ∀ l, l ∉ getAt s.lists n → getAt (s.flushDropped n).slots l = getAt s.slots l := by
  obtain ⟨h, hnil⟩ := flushing_flushDropped ho n
  have hq : (flushQueue n s).lists = s.lists ∧ (flushQueue n s).slots = s.slots := by simp
  refine ⟨fun l hl => (h.gone l (by rwa [hq.1])).resolve_left ?_, fun l hl => ?_⟩
  · rw [hnil]
    exact List.not_mem_nil
  · rw [h.kept l (by rwa [hq.1]), hq.2]

theorem flushSource_eq (ho : OrderSound s) (n : SourceId) : flushSource n s = { s with
    forwardQueue := s.forwardQueue.filter fun w => decide (w.req.source ≠ n)
    headPhase := flushPhase n s.forwardQueue s.headPhase
    rqWire := s.rqSent 0x85#8 (s.forwardQueue.countP fun w => decide (w.req.source = n))
    tags := (s.flushEnded n).tags
    slots := (s.flushDropped n).slots
    lists := putAt s.lists n []
    sources := putAt s.sources n { getAt s.sources n with count := 0 }
    backlog := s.backlog.filter fun a => decide (a.source ≠ n)
    opState := (s.flushEnded n).opState } := by
  obtain ⟨h, hnil⟩ := flushing_flushDropped ho n
  obtain ⟨htags, hop⟩ := flushDropped_keeps n s
  have hlists : (s.flushDropped n).lists = putAt (flushQueue n s).lists n [] := by
    rw [← h.lists, ← hnil, putAt_getAt_self]
  have honly := h.only
  have hsources := h.sources
  rw [OnlyDropped, htags, hop, hlists] at honly
  rw [flushSource_eq_cleared, State.flushCleared, hsources, honly, flushQueue_eq]

end

theorem getAt_tags_flushEnded (n : SourceId) (s : State) (g : PoolTag) :
    getAt (s.flushEnded n).tags g = match getAt s.tags g with
      | .active x => if x.absorbed = false ∧ x.source = n then s.abandoned x else .active x
      | x => x := by
  have hq : (flushQueue n s).tags = s.tags ∧ (flushQueue n s).tick = s.tick ∧
      (flushQueue n s).quarantineLimit = s.quarantineLimit := by simp
  rw [State.flushEnded, tags_terminateAll, hq.1]
  cases getAt s.tags g with
  | active x =>
    have hdest : (flushQueue n s).destState x .quarantined = s.abandoned x :=
      destState_of_sameClock hq.2 x .quarantined
    simp only [TagState.ended, flushed_iff, hdest]
  | free => rfl
  | quarantined q => rfl

theorem opState_flushEnded (n : SourceId) (s : State) : (s.flushEnded n).opState =
    if s.opState = .quiescing ∧ 0 < s.activeTags ∧ (s.flushEnded n).activeTags = 0 then .quiesced else s.opState := by
  have hq : (flushQueue n s).opState = s.opState ∧ (flushQueue n s).tags = s.tags := by simp
  have hop := (draining_terminateAll (flushed n) none .quarantined (flushQueue n s)).opState
  rwa [hq.1, activeTags_congr hq.2] at hop

/-! ### The statement -/

theorem flushEffect_of_source {arg : BitVec 8} {n : SourceId} (h : arg.toNat = n.val) (s : State) :
    flushEffect arg s = some (flushSource n s) := by
  have hlt : arg.toNat < 32 := h ▸ n.isLt
  have hn : (⟨arg.toNat, hlt⟩ : SourceId) = n := Fin.ext h
  rw [flushEffect, dif_pos hlt, hn]

/-- Settles O40, by what is left of the one source's entries and elements. -/
theorem flushSourceSilencesOneSource : Obligations.FlushSourceSilencesOneSource := by
  intro r rest v s ho h hc
  have hrow : r.row = .flushSource := row_command h hc
  have harg := arg_of v
  refine ⟨fun habove => congrArg Host.Outcome.next ?_, fun n hn => ?_⟩
  · exact taken_command_refused h hrow (dif_neg (by omega))
  · obtain ⟨hfree, hkept⟩ := slots_flushDropped ho n
    refine ⟨(s.flushEnded n).tags, (s.flushDropped n).slots, getAt_tags_flushEnded n s, hfree, hkept,
      congrArg Host.Outcome.next ?_⟩
    rw [takeRequest_command h _ hrow flushEffect _ (flushEffect_of_source (harg.trans hn.symm) s) (by simp),
      flushSource_eq ho, opState_flushEnded]
    rfl

end Sys2Proof.Machine
end

section
/-! PROOF. The management space: where each word stands, which row takes a READ and a write of a read-only word, and
what they are answered. -/

namespace Sys2Proof.Machine

/-! ### Where the words stand (R194) -/

theorem mgmtWordAt_offset (m : MgmtWord) : mgmtWordAt m.offset = some m := by
  cases m with
  | errorSeverity second => cases second <;> rfl
  | recordHead i => revert i; decide
  | timeoutClass c => exact wordAt_timeoutClass c
  | sourceConfig n => exact wordAt_sourceConfig n
  | sourceCount n => revert n; decide +kernel
  | staging w k => exact wordAt_staging w k
  | active w k => revert w k; decide +kernel
  | tagFirst t => revert t; decide +kernel
  | tagSecond t => revert t; decide +kernel
  | _ => rfl

theorem offset_of_lowMgmtWord {i : Nat} {m : MgmtWord} (h : lowMgmtWord i = some m) : m.offset = 4 * i := by
  have hi : i < 28 := Nat.lt_of_not_le fun hge => by
    obtain ⟨j, rfl⟩ := Nat.exists_eq_add_of_le' hge
    exact nomatch h
  have hall : ∀ j : Fin 28, (lowMgmtWord j).all (fun w => w.offset = 4 * j.val) = true := by decide
  simpa [h] using hall ⟨i, hi⟩

section

variable {off : Nat}

theorem mgmtWordAt_low (h : off < 0x100) : mgmtWordAt off = lowMgmtWord (off / 4) := if_pos h

theorem mgmtWordAt_source (h : 0x100 ≤ off) (h' : off < 0x200) : mgmtWordAt off =
    if off / 4 % 2 = 0 then some (.sourceConfig (Fin.ofNat 32 ((off - 0x100) / 8)))
    else some (.sourceCount (Fin.ofNat 32 ((off - 0x100) / 8))) := by
  rw [mgmtWordAt, if_neg (by omega), if_pos h']

theorem mgmtWordAt_staging (h : 0x400 ≤ off) (h' : off < 0x500) : mgmtWordAt off =
    some (.staging (Fin.ofNat 16 ((off - 0x400) / 16)) (Fin.ofNat 4 (off / 4 % 4))) := by
  rw [mgmtWordAt, if_neg (by omega), if_neg (by omega), if_neg (by omega), if_pos h']

theorem mgmtWordAt_active (h : 0x500 ≤ off) (h' : off < 0x600) : mgmtWordAt off =
    some (.active (Fin.ofNat 16 ((off - 0x500) / 16)) (Fin.ofNat 4 (off / 4 % 4))) := by
  rw [mgmtWordAt, if_neg (by omega), if_neg (by omega), if_neg (by omega), if_neg (by omega), if_pos h']

theorem mgmtWordAt_tag (h : 0x800 ≤ off) (h' : off < 0xA00) : mgmtWordAt off =
    if off / 4 % 2 = 0 then some (.tagFirst (Fin.ofNat 64 ((off - 0x800) / 8)))
    else some (.tagSecond (Fin.ofNat 64 ((off - 0x800) / 8))) := by
  rw [mgmtWordAt, if_neg (by omega), if_neg (by omega), if_neg (by omega), if_neg (by omega), if_neg (by omega),
    if_neg (by omega), if_pos h']

theorem mgmtWordAt_gap (h : (0x200 ≤ off ∧ off < 0x400) ∨ (0x600 ≤ off ∧ off < 0x800) ∨ 0xA00 ≤ off) :
    mgmtWordAt off = none := by
  rcases h with ⟨hlo, hhi⟩ | ⟨hlo, hhi⟩ | hlo
  · rw [mgmtWordAt, if_neg (by omega), if_neg (by omega), if_pos hhi]
  · rw [mgmtWordAt, if_neg (by omega), if_neg (by omega), if_neg (by omega), if_neg (by omega), if_neg (by omega),
      if_pos hhi]
  · rw [mgmtWordAt, if_neg (by omega), if_neg (by omega), if_neg (by omega), if_neg (by omega), if_neg (by omega),
      if_neg (by omega), if_neg (by omega)]

end

theorem offset_of_mgmtWordAt {off : Nat} {m : MgmtWord} (halign : off % 4 = 0) (h : mgmtWordAt off = some m) :
    off = m.offset := by
  have hrange : off < 0x100 ∨ (0x100 ≤ off ∧ off < 0x200) ∨ (0x400 ≤ off ∧ off < 0x500) ∨
      (0x500 ≤ off ∧ off < 0x600) ∨ (0x800 ≤ off ∧ off < 0xA00) ∨
      (0x200 ≤ off ∧ off < 0x400) ∨ (0x600 ≤ off ∧ off < 0x800) ∨ 0xA00 ≤ off := by omega
  rcases hrange with hlow | ⟨hlo, hhi⟩ | ⟨hlo, hhi⟩ | ⟨hlo, hhi⟩ | ⟨hlo, hhi⟩ | hgap
  · rw [mgmtWordAt_low hlow] at h
    have := offset_of_lowMgmtWord h
    omega
  · rw [mgmtWordAt_source hlo hhi] at h
    split at h
    · obtain rfl := Option.some.inj h
      simp only [MgmtWord.offset, Fin.val_ofNat]
      omega
    · obtain rfl := Option.some.inj h
      simp only [MgmtWord.offset, Fin.val_ofNat]
      omega
  · rw [mgmtWordAt_staging hlo hhi] at h
    obtain rfl := Option.some.inj h
    simp only [MgmtWord.offset, Fin.val_ofNat]
    omega
  · rw [mgmtWordAt_active hlo hhi] at h
    obtain rfl := Option.some.inj h
    simp only [MgmtWord.offset, Fin.val_ofNat]
    omega
  · rw [mgmtWordAt_tag hlo hhi] at h
    split at h
    · obtain rfl := Option.some.inj h
      simp only [MgmtWord.offset, Fin.val_ofNat]
      omega
    · obtain rfl := Option.some.inj h
      simp only [MgmtWord.offset, Fin.val_ofNat]
      omega
  · rw [mgmtWordAt_gap hgap] at h
    exact nomatch h

/-! ### The row of every other request (R173, R174) -/

/-- The words that no row writes. -/
def MgmtWord.readOnly : MgmtWord → Bool
  | .identification | .opState | .bankStatus | .holdStatus | .tickCount | .rqPort | .rsPort | .errorStatus
  | .recordStatus | .recordHead _ | .alertStatus | .sourceCount _ | .active _ _ | .tagFirst _ | .tagSecond _ => true
  | _ => false

theorem readOnly_of_offset {off : Nat} {m : MgmtWord} (hoff : ReadOnlyOffset off) (h : mgmtWordAt off = some m) :
    m.readOnly = true := by
  rcases hoff with hlow | ⟨hlo, hhi, hodd⟩ | ⟨hlo, hhi⟩ | ⟨hlo, hhi⟩
  · have hall : ∀ i ∈ [0, 2, 4, 5, 9, 10, 11, 12, 17, 18, 19, 20, 21, 23],
        i < 64 ∧ (lowMgmtWord i).all MgmtWord.readOnly = true := by decide
    obtain ⟨hlt, hread⟩ := hall _ hlow
    rw [mgmtWordAt_low (by omega)] at h
    simpa [h] using hread
  · rw [mgmtWordAt_source hlo hhi, if_neg (by omega)] at h
    exact Option.some.inj h ▸ rfl
  · rw [mgmtWordAt_active hlo hhi] at h
    exact Option.some.inj h ▸ rfl
  · rw [mgmtWordAt_tag hlo hhi] at h
    split at h
    · exact Option.some.inj h ▸ rfl
    · exact Option.some.inj h ▸ rfl

section

variable {s : State} {r : Request} {rest : List Request} {off : Nat} {v : Word} {m : MgmtWord}

theorem row_of_read (hk : r.kind = .read) : r.row = .other := if_pos hk

theorem row_of_readOnly (hw : r.word = some m) (h : m.readOnly = true) : r.row = .other := by
  unfold Request.row
  split
  · rfl
  · rw [hw]
    cases m with
    | identification | opState | bankStatus | holdStatus | tickCount | rqPort | rsPort | errorStatus | recordStatus
    | recordHead | alertStatus | sourceCount | active | tagFirst | tagSecond => rfl
    | _ => exact nomatch h

theorem handleOther_of_read (hk : r.kind = .read) (hw : r.word = some m) (s : State) :
    handleOther r s = (s, .data (s.readWord m)) := by
  simp only [handleOther, hk, hw]

theorem takeRequest_congr (hq : s.mgmtQueue = r :: rest) {row : MgmtRow} {f g : Request → State → State × Answer}
    (h : f r s = g r s) : takeRequest row f s = takeRequest row g s := by
  simp only [takeRequest, hq, carryOut, h]

/-- A READ is answered with the word as it stands (R173). -/
theorem exec_managementWrite_read (h : Taken s r rest off) (hk : r.kind = .read) (hm : mgmtWordAt off = some m) :
    exec .managementWrite s =
      .next (answered r rest (.data { words := [s.readWord m], last := true, poison := false }) s) := by
  have hout := handleOther_of_read hk (h.word.trans hm) s
  have hsame : SameIssue s s := by constructor <;> rfl
  have htaken := takeRequest_taken h .other (row_of_read hk) handleOther (by rw [hout])
  rw [hout] at htaken
  exact congrArg Host.Outcome.next (htaken.trans (hsame.issueAfter_answered r rest _))

/-- A write of a read-only word is refused (R174). -/
theorem exec_managementWrite_readOnly (h : WriteTaken s r rest off v) (hoff : ReadOnlyOffset off) :
    exec .managementWrite s = .next (refusedWith r rest .denied s) := by
  obtain ⟨m, hm⟩ := Option.isSome_iff_exists.mp h.assigned
  have hw : r.word = some m := h.toTaken.word.trans hm
  have hread := readOnly_of_offset hoff hm
  have hne : r.word ≠ some .command := by
    rw [hw]
    rintro ⟨rfl⟩
    exact nomatch hread
  have hout := (carryOut_of_passed h.checkFailure handleOther).trans (handleOther_of_write h.write hne s)
  have htaken := takeRequest_of_refuse h.oldest h.slot hout
  rw [row_of_readOnly hw hread] at htaken
  exact congrArg Host.Outcome.next htaken

theorem commandRow_of_unnamed {c : BitVec 8} (h : c.toNat = 0 ∨ 10 < c.toNat) : commandRow c = .other := by
  revert c
  decide

/-- A command code that names no command is refused, and shown (R175). -/
theorem exec_managementWrite_unnamed (h : WriteTaken s r rest 4 v) (hc : v.toNat / 2 ^ 24 = 0 ∨ 10 < v.toNat / 2 ^ 24) :
    exec .managementWrite s = .next (refusedWith r rest .denied (shown v true s)) := by
  have hlt : v.toNat / 2 ^ 24 < 2 ^ 8 := by
    have := v.isLt
    omega
  have hcode : (BitVec.ofNat 8 (v.toNat / 2 ^ 24)).toNat = v.toNat / 2 ^ 24 := by
    rw [BitVec.toNat_ofNat, Nat.mod_eq_of_lt hlt]
  have hrow : r.row = .other := (row_command h rfl).trans (commandRow_of_unnamed (hcode.symm ▸ hc))
  have hw : r.word = some .command := h.toTaken.word.trans (mgmtWordAt_offset .command)
  have htaken := taken_command_refused (effect := fun _ _ => none) h hrow rfl
  have hsame := takeRequest_congr (row := .other) h.oldest (handleOther_of_command h.write hw s)
  exact congrArg Host.Outcome.next (hsame.trans htaken)

end

end Sys2Proof.Machine
end

section
/-! PROOF. What a READ shows: each word's value is the sum of its fields at their positions. -/

namespace Sys2Proof.Machine

/-! ### Fields as numbers (R192, R193) -/

theorem flagAt_eq (k : Nat) (b : Bool) : flagAt k b = b.toNat * 2 ^ k := by
  cases b <;> simp [flagAt]

theorem toNat_bit (b : Bool) : (bit b).toNat = b.toNat := BitVec.toNat_ofBool b

theorem toNat_sourceBits (n : SourceId) : (sourceBits n).toNat = n.val := by
  rw [sourceBits, BitVec.toNat_ofNat, Nat.mod_eq_of_lt n.isLt]

theorem toNat_severityCode (c : Severity) : c.code.toNat = severityNumber c := by
  cases c <;> rfl

theorem toNat_prescaleCode (p : Prescale) : p.code.toNat = prescaleNumber p := by
  cases p <;> rfl

theorem toNat_viewCode (k : EntryKind) : k.viewCode.toNat = entryNumber k := by
  cases k <;> rfl

/-! ### Runs of fields (R198) -/

/-- Fields of `c` bits set one after another from bit `d` on add up. -/
theorem toNat_foldl_fields {c d n : Nat} (hn : d + c * n ≤ 32) {x : Fin n → Word} (hx : ∀ i, (x i).toNat < 2 ^ c) :
    ((List.finRange n).foldl (fun w i => w ||| x i <<< (d + c * i.val)) 0#32).toNat =
      ((List.finRange n).map fun i => (x i).toNat * 2 ^ (d + c * i.val)).sum ∧
    ((List.finRange n).map fun i => (x i).toNat * 2 ^ (d + c * i.val)).sum < 2 ^ (d + c * n) := by
  induction n with
  | zero => simp
  | succ n ih =>
    have hpow : 2 ^ (d + c * (n + 1)) = 2 ^ c * 2 ^ (d + c * n) := by
      rw [← Nat.pow_add]
      congr 1
      ring
    have hle : d + c * n ≤ d + c * (n + 1) := by
      rw [Nat.mul_succ]
      omega
    obtain ⟨hsum, hlt⟩ := ih (hle.trans hn) (x := fun i => x i.castSucc) fun i => hx _
    have hlast := hx (Fin.last n)
    have hfield : (x (Fin.last n)).toNat * 2 ^ (d + c * n) + 2 ^ (d + c * n) ≤ 2 ^ c * 2 ^ (d + c * n) := by
      rw [← Nat.succ_mul]
      exact Nat.mul_le_mul_right _ hlast
    have hword : 2 ^ (d + c * (n + 1)) ≤ 2 ^ 32 := Nat.pow_le_pow_right (by decide) hn
    rw [hpow] at hword ⊢
    simp only [List.finRange_succ_last, List.foldl_append, List.foldl_map, List.foldl_cons, List.foldl_nil,
      List.map_append, List.map_map, List.map_cons, List.map_nil, List.sum_append, List.sum_singleton,
      Function.comp_def, Fin.val_castSucc, Fin.val_last]
    refine ⟨?_, by omega⟩
    rw [BitVec.toNat_or, hsum, BitVec.toNat_shiftLeft, Nat.mod_eq_of_lt (by rw [Nat.shiftLeft_eq]; omega), Nat.or_comm,
      ← Nat.shiftLeft_add_eq_or_of_lt hlt, Nat.shiftLeft_eq, Nat.add_comm]

theorem toNat_kindBits (items : Table ErrorItem 20) (f : ErrorItem → Bool) :
    (kindBits items f).toNat = ((List.finRange 20).map fun i => flagAt (i.val + 1) (f (getAt items i))).sum := by
  have hfields := (toNat_foldl_fields (c := 1) (d := 1) (n := 20) (by decide)
    (x := fun i => BitVec.setWidth 32 (bit (f (getAt items i)))) fun i => by
      cases f (getAt items i) <;> decide).1
  have hrun : kindBits items f = (List.finRange 20).foldl
      (fun w i => w ||| BitVec.setWidth 32 (bit (f (getAt items i))) <<< (1 + 1 * i.val)) 0#32 := by
    unfold kindBits
    congr 1
    funext w i
    rw [Nat.one_mul, Nat.add_comm 1]
    cases f (getAt items i) <;> simp [bit]
  rw [hrun, hfields]
  congr 1
  refine List.map_congr_left fun i _ => ?_
  rw [flagAt_eq, Nat.one_mul, Nat.add_comm 1]
  cases f (getAt items i) <;> simp [bit]

theorem toNat_severityBits (items : Table ErrorItem 20) (second : Bool) :
    (severityBits items second).toNat = ((List.finRange 10).map fun i =>
      4 ^ i.val * severityNumber (getAt items (severityIndex second i)).severity).sum := by
  have hcode (i : Fin 10) : ((getAt items (severityIndex second i)).severity.code.setWidth 32).toNat =
      severityNumber (getAt items (severityIndex second i)).severity := by
    cases (getAt items (severityIndex second i)).severity <;> rfl
  have hfields := (toNat_foldl_fields (c := 2) (d := 0) (n := 10) (by decide)
    (x := fun i => (getAt items (severityIndex second i)).severity.code.setWidth 32) fun i => by
      rw [hcode]
      cases (getAt items (severityIndex second i)).severity <;> decide).1
  simp only [Nat.zero_add, hcode] at hfields
  refine hfields.trans (congrArg List.sum (List.map_congr_left fun i _ => ?_))
  rw [Nat.pow_mul, Nat.mul_comm]

/-! ### What the tables hold in sum (R90, R104, R181) -/

section

variable {s : State}

theorem overElements_eq_elim (s : State) (f : Element → Nat) :
    s.overElements f = ((List.finRange 64).map fun l => (getAt s.slots l).elim 0 f).sum := by
  refine congrArg List.sum (List.map_congr_left fun l _ => ?_)
  cases getAt s.slots l <;> rfl

theorem sum_filterMap_eq_elim {α : Type} (f : α → Nat) (l : List (Option α)) :
    ((l.filterMap id).map f).sum = (l.map fun x => x.elim 0 f).sum := by
  induction l with
  | nil => rfl
  | cons x l ih =>
    cases x with
    | none => exact ih.trans (Nat.zero_add _).symm
    | some e => exact congrArg (f e + ·) ih

theorem sum_elements (s : State) (f : Element → Nat) : (s.elements.map f).sum = s.overElements f := by
  rw [State.elements, sum_filterMap_eq_elim, overElements_eq_elim, toList_eq_map_getAt, List.map_map]
  rfl

theorem slotsInUse_eq (s : State) : s.slotsInUse = s.overElements fun _ => 1 := by
  rw [← sum_elements, List.map_const', List.sum_replicate, smul_eq_mul, Nat.mul_one, State.slotsInUse]

theorem slotsInUse_le (s : State) : s.slotsInUse ≤ 64 :=
  (List.length_filterMap_le id s.slots.toList).trans_eq s.slots.length_toList

theorem storedWords_le (h : OrderSound s) : s.storedWords ≤ s.reservedWords := by
  rw [State.storedWords, State.reservedWords, sum_elements, sum_elements, overElements_eq_elim, overElements_eq_elim]
  refine List.sum_le_sum fun l _ => ?_
  cases he : getAt s.slots l with
  | none => exact le_rfl
  | some e => exact h.stored l e he

theorem tagsWhere_eq_countP (s : State) (f : TagState → Bool) : s.tagsWhere f = s.tags.toList.countP f := by
  rw [State.tagsWhere, toList_eq_map_getAt, List.countP_map]
  rfl

theorem activeTags_le (s : State) : s.activeTags ≤ 64 :=
  List.countP_le_length.trans_eq s.tags.length_toList

theorem anyQuarantined_eq (s : State) :
    s.anyQuarantined = decide (0 < s.tagsWhere TagState.isQuarantined) := by
  rw [tagsWhere_eq_countP, Bool.eq_iff_iff, decide_eq_true_eq, List.countP_pos_iff, State.anyQuarantined,
    List.any_eq_true]

/-- The Malformed Answer List's answers keep slots of two pools (R127). -/
theorem malformedList_length (h : ∀ a ∈ s.malformedList, a.pool ≠ .ret) :
    s.malformedList.length = s.malformedOf .ordinary + s.malformedOf .management := by
  rw [State.malformedOf, State.malformedOf, List.length_eq_countP_add_countP fun a => decide (a.pool = .ordinary)]
  refine congrArg _ (List.countP_congr fun a ha => ?_)
  have hret := h a ha
  generalize a.pool = p at hret
  cases p with
  | ordinary => decide
  | management => decide
  | ret => exact absurd rfl hret

/-! ### The words, one by one (R196 to R199) -/

theorem toNat_commandWord (s : State) : s.commandWord.toNat = s.layout .command := by
  have ha := s.commandArg.isLt
  simp only [State.commandWord, State.layout, toNat_append_eq_add, toNat_bit, flagAt_eq, BitVec.toNat_ofNat]
  omega

theorem toNat_opStateWord (s : State) : s.opStateWord.toNat = s.layout .opState := by
  have hactive := activeTags_le s
  have hlayout : s.layout .opState =
      (match s.opState with | .run => 0 | .quiescing => 1 | .quiesced => 2 | .halted => 3)
        + 2 ^ 8 * s.tagsWhere TagState.isActive + flagAt 16 (decide (0 < s.tagsWhere TagState.isQuarantined)) := rfl
  have hcode : s.opState.code.toNat =
      (match s.opState with | .run => 0 | .quiescing => 1 | .quiesced => 2 | .halted => 3) := by
    cases s.opState <;> rfl
  rw [hlayout, ← hcode, ← anyQuarantined_eq, tagsWhere_eq_countP, ← State.activeTags]
  have hlt := s.opState.code.isLt
  simp only [State.opStateWord, toNat_append_eq_add, toNat_bit, flagAt_eq, BitVec.toNat_ofNat]
  omega

theorem toNat_bankStatusWord (s : State) : s.bankStatusWord.toNat = s.layout .bankStatus := by
  have hb := s.activeBank.isLt
  simp only [State.bankStatusWord, State.layout, toNat_append_eq_add, BitVec.toNat_ofNat]
  omega

theorem toNat_holdStatusWord (h : OrderSound s) : s.holdStatusWord.toNat = s.layout .holdStatus := by
  have hstored := storedWords_le h
  have hreserved := h.reserved
  have hslots := slotsInUse_le s
  have hlayout : s.layout .holdStatus = s.reservedWords + 2 ^ 10 * s.storedWords + 2 ^ 20 * s.slotsInUse := by
    rw [slotsInUse_eq, State.reservedWords, State.storedWords, sum_elements, sum_elements]
    rfl
  rw [hlayout]
  simp only [State.holdStatusWord, toNat_append_eq_add, BitVec.toNat_ofNat]
  omega

theorem toNat_limitWord (l : BitVec 12) : (limitWord l).toNat = l.toNat := by
  simp only [limitWord, toNat_append_eq_add, BitVec.toNat_ofNat]
  omega

theorem toNat_tickPeriodWord (s : State) : s.tickPeriodWord.toNat = s.layout .tickPeriod := by
  have hword (p : Prescale) (reload : BitVec 16) :
      (reload ++ 0#14 ++ p.code : BitVec 32).toNat = prescaleNumber p + 2 ^ 16 * reload.toNat := by
    have hp := p.code.isLt
    rw [← toNat_prescaleCode]
    simp only [toNat_append_eq_add, BitVec.toNat_ofNat]
    omega
  unfold State.tickPeriodWord State.layout
  cases s.tick.pendingPeriod with
  | none => exact hword _ _
  | some p => exact hword p.1 p.2

theorem toNat_tickCountWord (s : State) : s.tickCountWord.toNat = s.layout .tickCount := by
  have hc := s.tick.count.isLt
  simp only [State.tickCountWord, State.layout, toNat_append_eq_add, toNat_bit, flagAt_eq, BitVec.toNat_ofNat]
  omega

theorem toNat_rqPortWord (h : Bounded s) : s.rqPortWord.toNat = s.layout .rqPort := by
  have hmalformed := malformedList_length h.noReturn
  have hordinary := h.ordinary
  have hmanagement := h.management
  have htraffic := h.traffic
  have hcredits := h.rqCredits
  have hup := (decide (s.rqLink = .up)).toNat_lt
  have hlayout : s.layout .rqPort = flagAt 0 (decide (s.rqLink = .up)) + 2 ^ 1 * s.rqCredits
      + 2 ^ 7 * s.ordinaryFree + 2 ^ 13 * s.managementFree + 2 ^ 15 * s.trafficQueue.length
      + 2 ^ 21 * s.malformedList.length := rfl
  have hfree : s.ordinaryFree ≤ 32 ∧ s.managementFree ≤ 2 := ⟨Nat.sub_le _ _, Nat.sub_le _ _⟩
  rw [hlayout]
  simp only [State.rqPortWord, toNat_append_eq_add, toNat_bit, flagAt_eq, BitVec.toNat_ofNat]
  omega

theorem toNat_rsPortWord (h : Bounded s) : s.rsPortWord.toNat = s.layout .rsPort := by
  have hingress := h.ingress
  have hcredits := h.rsCredits
  have hup := (decide (s.rsLink = .up)).toNat_lt
  simp only [State.rsPortWord, State.layout, State.returnFree, Config.returnSlots, toNat_append_eq_add, toNat_bit,
    flagAt_eq, BitVec.toNat_ofNat]
  omega

theorem fatalCondition_eq (e : ErrorUnit) : e.fatalCondition = (List.finRange 20).any fun i =>
    (getAt e.items i).status && !(getAt e.items i).mask && decide ((getAt e.items i).severity = .fatal) := by
  rw [ErrorUnit.fatalCondition, toList_eq_map_getAt, List.any_map]
  rfl

theorem toNat_errorControlWord (s : State) : s.errorControlWord.toNat = s.layout .errorControl := by
  have hh := s.err.haltOnFatal.toNat_lt
  simp only [State.errorControlWord, State.layout, fatalCondition_eq, toNat_append_eq_add, toNat_bit, flagAt_eq,
    BitVec.toNat_ofNat]
  omega

theorem toNat_recordStatusWord (h : Bounded s) : s.recordStatusWord.toNat = s.layout .recordStatus := by
  have hrecords := h.records
  simp only [State.recordStatusWord, State.layout, toNat_append_eq_add, toNat_bit, flagAt_eq, BitVec.toNat_ofNat]
  omega

/-- The first record head word: kind, severity, port and time (R143). -/
theorem toNat_headWord_zero (r : Record) : (r.headWord 0).toNat = recordLayout r 0 := by
  have hlayout : recordLayout r 0 = errorNumber r.kind + 2 ^ 5 * severityNumber r.severity
      + 2 ^ 7 * (match r.port with | none => 0 | some .rq => 1 | some .rs => 2) + 2 ^ 16 * r.stamp.toNat := rfl
  have hport : (portCode r.port).toNat = (match r.port with | none => 0 | some .rq => 1 | some .rs => 2) := by
    rcases r.port with _ | _ | _ <;> rfl
  have hk := r.kind.code.isLt
  have hs := r.severity.code.isLt
  have hp := (portCode r.port).isLt
  rw [hlayout, ← hport, ← toNat_errorCode, ← toNat_severityCode]
  simp only [Record.headWord, toNat_append_eq_add, BitVec.toNat_ofNat]
  omega

/-- The second: which fields are present, source, tag and pool tag (R140). -/
theorem toNat_headWord_one (r : Record) : (r.headWord 1).toNat = recordLayout r 1 := by
  have hlayout : recordLayout r 1 = flagAt 0 r.ident.source.isSome + flagAt 1 r.ident.tag.isSome
      + flagAt 2 r.ident.pool.isSome + flagAt 3 r.ident.kind.isSome + flagAt 4 r.ident.address.isSome
      + 2 ^ 8 * (match r.ident.source with | none => 0 | some n => n.val)
      + 2 ^ 16 * (match r.ident.tag with | none => 0 | some t => t.toNat)
      + 2 ^ 24 * (match r.ident.pool with | none => 0 | some g => g.val) := rfl
  have hsource : (match r.ident.source with | none => 0 | some n => n.val) = (r.ident.source.getD 0).val := by
    cases r.ident.source <;> rfl
  have htag : (match r.ident.tag with | none => 0 | some t => t.toNat) = (r.ident.tag.getD 0#8).toNat := by
    cases r.ident.tag <;> rfl
  have hpool : (match r.ident.pool with | none => 0 | some g => g.val) = (r.ident.pool.map Fin.val).getD 0 := by
    cases r.ident.pool <;> rfl
  have hlt : (r.ident.pool.map Fin.val).getD 0 < 64 := by
    cases r.ident.pool with
    | none => decide
    | some g => exact g.isLt
  have hs := (r.ident.source.getD 0).isLt
  have ht := (r.ident.tag.getD 0#8).isLt
  have h0 := r.ident.source.isSome.toNat_lt
  have h1 := r.ident.tag.isSome.toNat_lt
  have h2 := r.ident.pool.isSome.toNat_lt
  have h3 := r.ident.kind.isSome.toNat_lt
  have h4 := r.ident.address.isSome.toNat_lt
  rw [hlayout, hsource, htag, hpool]
  simp only [Record.headWord, toNat_append_eq_add, toNat_bit, toNat_sourceBits, flagAt_eq, BitVec.toNat_ofNat]
  omega

/-- The third and the fourth: the request's kind, and the two parts of its address (R140). -/
theorem toNat_headWord_address (r : Record) :
    (r.headWord 2).toNat = recordLayout r 2 ∧ (r.headWord 3).toNat = recordLayout r 3 := by
  have hlayout : recordLayout r 2 =
      (match r.ident.kind with | none => 0 | some .read => 1 | some .write => 2 | some .cwrite => 3)
        + 2 ^ 8 * (match r.ident.address with | none => 0 | some a => a.toNat / 2 ^ 32) ∧
      recordLayout r 3 = (match r.ident.address with | none => 0 | some a => a.toNat % 2 ^ 32) := ⟨rfl, rfl⟩
  have hkind : (match r.ident.kind with | none => 0 | some .read => 1 | some .write => 2 | some .cwrite => 3) =
      ((r.ident.kind.map ReqKind.code).getD 0#4).toNat := by
    rcases r.ident.kind with _ | _ | _ | _ <;> rfl
  have hhigh : (match r.ident.address with | none => 0 | some a => a.toNat / 2 ^ 32) =
      (r.ident.address.getD 0#40).toNat / 2 ^ 32 := by
    cases r.ident.address <;> rfl
  have hlow : (match r.ident.address with | none => 0 | some a => a.toNat % 2 ^ 32) =
      (r.ident.address.getD 0#40).toNat % 2 ^ 32 := by
    cases r.ident.address <;> rfl
  have ha := (r.ident.address.getD 0#40).isLt
  have hk := ((r.ident.kind.map ReqKind.code).getD 0#4).isLt
  rw [hlayout.1, hlayout.2, hkind, hhigh, hlow]
  simp only [Record.headWord, toNat_append_eq_add, BitVec.extractLsb'_toNat, BitVec.toNat_ofNat,
    Nat.shiftRight_eq_div_pow]
  omega

theorem toNat_headWord (r : Record) (i : Fin 4) : (r.headWord i).toNat = recordLayout r i := by
  match i with
  | 0 => exact toNat_headWord_zero r
  | 1 => exact toNat_headWord_one r
  | 2 => exact (toNat_headWord_address r).1
  | 3 => exact (toNat_headWord_address r).2

theorem toNat_alertConfigWord (s : State) : s.alertConfigWord.toNat = s.layout .alertConfig := by
  have hd := s.alert.dest.isLt
  simp only [State.alertConfigWord, State.layout, toNat_append_eq_add, toNat_bit, toNat_sourceBits, flagAt_eq,
    BitVec.toNat_ofNat]
  omega

theorem toNat_statusByte (x : AlertClass) : x.statusByte.toNat = alertByte x := by
  have hlayout : alertByte x = (match x.state with | .idle => 0 | .outstanding => 1 | .pending => 2)
      + 2 ^ 2 * (match x.latest with | none => 0 | some k => errorNumber k) + flagAt 7 x.slot.isSome := rfl
  have hstate : x.state.code.toNat = (match x.state with | .idle => 0 | .outstanding => 1 | .pending => 2) := by
    cases x.state <;> rfl
  have hlatest : (match x.latest with | none => 0 | some k => errorNumber k) =
      ((x.latest.map ErrorKind.code).getD 0#5).toNat := by
    cases x.latest with
    | none => rfl
    | some k => exact (toNat_errorCode k).symm
  have hk := ((x.latest.map ErrorKind.code).getD 0#5).isLt
  have hs := x.state.code.isLt
  rw [hlayout, ← hstate, hlatest]
  simp only [AlertClass.statusByte, toNat_append_eq_add, toNat_bit, flagAt_eq]
  omega

theorem toNat_alertStatusWord (s : State) : s.alertStatusWord.toNat = s.layout .alertStatus := by
  have hf := s.alert.fatal.statusByte.isLt
  have hn := s.alert.nonfatal.statusByte.isLt
  simp only [State.alertStatusWord, State.layout, toNat_append_eq_add, ← toNat_statusByte, BitVec.toNat_ofNat]
  omega

theorem toNat_configWord (s : State) (n : SourceId) :
    (getAt s.sources n).configWord.toNat = s.layout (.sourceConfig n) := by
  generalize he : getAt s.sources n = e
  have hlayout : s.layout (.sourceConfig n) = flagAt 0 e.valid + 2 ^ 1 * e.group.val + 2 ^ 4 * e.quota.toNat
      + flagAt 12 e.permission + 2 ^ 16 * (match e.order with | .none => 0 | .all => 1 | .flagged => 2) := he ▸ rfl
  have horder : e.order.code.toNat = (match e.order with | .none => 0 | .all => 1 | .flagged => 2) := by
    cases e.order <;> rfl
  have hg := e.group.isLt
  have hq := e.quota.isLt
  have hv := e.valid.toNat_lt
  have hp := e.permission.toNat_lt
  rw [hlayout, ← horder]
  simp only [SourceEntry.configWord, toNat_append_eq_add, toNat_bit, flagAt_eq, BitVec.toNat_ofNat]
  omega

theorem toNat_countWord {e : SourceEntry} (h : e.count ≤ 16) : e.countWord.toNat = e.count := by
  simp only [SourceEntry.countWord, toNat_append_eq_add, BitVec.toNat_ofNat]
  omega

/-- The control word of a window (R196). -/
theorem toNat_windowControl (w : Window) : (w.word 0).toNat = windowLayout w 0 := by
  have hlayout : windowLayout w 0 = flagAt 0 w.valid
      + 2 ^ 4 * (match w.access with | .readOnly => 1 | .writeOnly => 2 | .readWrite => 3)
      + 2 ^ 8 * w.groups.toNat + 2 ^ 16 * w.cls.val + flagAt 20 w.absorb := rfl
  have haccess : w.access.code.toNat = (match w.access with | .readOnly => 1 | .writeOnly => 2 | .readWrite => 3) := by
    cases w.access <;> rfl
  have hv := w.valid.toNat_lt
  have ha := w.access.code.isLt
  have hg := w.groups.isLt
  have hc := w.cls.isLt
  rw [hlayout, ← haccess]
  simp only [Window.word, toNat_append_eq_add, toNat_bit, flagAt_eq, BitVec.toNat_ofNat]
  omega

theorem toNat_windowWord (w : Window) (k : Fin 4) : (w.word k).toNat = windowLayout w k := by
  have hpad {m n : Nat} (x : BitVec n) : (BitVec.ofNat m 0 ++ x).toNat = x.toNat := by
    rw [toNat_append_eq_add, BitVec.toNat_ofNat, Nat.zero_mod, Nat.zero_mul, Nat.zero_add]
  match k with
  | 0 => exact toNat_windowControl w
  | 1 => exact hpad w.sizeExp
  | 2 => exact hpad w.base
  | 3 => exact hpad w.transBase

/-- The first word of a tag's view, where the words received fit their field (R199). -/
theorem toNat_firstWord {x : TagState} (h : ∀ r, x = .active r → r.received < 128) :
    x.firstWord.toNat = firstLayout x := by
  cases x with
  | free => rfl
  | active r =>
    have hb := r.bank.isLt
    have hw := r.window.isLt
    have hr := h r rfl
    have hd := r.delivered.toNat_lt
    have ha := r.absorbed.toNat_lt
    have ho := r.ordered.toNat_lt
    have hk := r.kind.viewCode.isLt
    have ht := r.tag.isLt
    have hs := r.source.isLt
    simp only [TagState.firstWord, firstLayout, TagState.code, toNat_append_eq_add, toNat_bit, toNat_sourceBits,
      flagAt_eq, ← toNat_viewCode, BitVec.toNat_ofNat]
    omega
  | quarantined q =>
    have hk := q.kind.viewCode.isLt
    have ht := q.tag.isLt
    have hs := q.source.isLt
    simp only [TagState.firstWord, firstLayout, TagState.code, toNat_append_eq_add, toNat_sourceBits,
      ← toNat_viewCode, BitVec.toNat_ofNat]
    omega

theorem toNat_secondWord (x : TagState) : x.secondWord.toNat = secondLayout x := by
  have hword (start : Tick) (limit : BitVec 12) (code : BitVec 2) :
      (start ++ 0#2 ++ limit ++ code : BitVec 32).toNat =
        code.toNat + 2 ^ 2 * limit.toNat + 2 ^ 16 * start.toNat := by
    have hc := code.isLt
    have hl := limit.isLt
    simp only [toNat_append_eq_add, BitVec.toNat_ofNat]
    omega
  cases x with
  | free => rfl
  | active r => exact hword _ _ _
  | quarantined q => exact hword _ _ _

/-- No field of a word overflows its place where the queues, the lists and the records are in their ranges. -/
theorem toNat_readWord (hb : Bounded s) (ho : OrderSound s) (hr : RecordsSound s) (m : MgmtWord) :
    (s.readWord m).toNat = s.layout m := by
  cases m with
  | identification => rfl
  | command => exact toNat_commandWord s
  | opState => exact toNat_opStateWord s
  | farSource =>
    show (0#27 ++ sourceBits s.farSource : BitVec 32).toNat = s.farSource.val
    rw [toNat_append_eq_add, toNat_sourceBits, BitVec.toNat_ofNat, Nat.zero_mod, Nat.zero_mul, Nat.zero_add]
  | bankStatus => exact toNat_bankStatusWord s
  | holdStatus => exact toNat_holdStatusWord ho
  | quarantineLimit => exact toNat_limitWord _
  | tickPeriod => exact toNat_tickPeriodWord s
  | tickRun =>
    show (0#31 ++ bit s.tick.run : BitVec 32).toNat = flagAt 0 s.tick.run
    cases s.tick.run <;> rfl
  | tickCount => exact toNat_tickCountWord s
  | rqPort => exact toNat_rqPortWord hb
  | rsPort => exact toNat_rsPortWord hb
  | errorStatus => exact toNat_kindBits _ _
  | errorMask => exact toNat_kindBits _ _
  | errorSeverity second =>
    cases second with
    | false => exact toNat_severityBits s.err.items false
    | true => exact toNat_severityBits s.err.items true
  | errorControl => exact toNat_errorControlWord s
  | recordStatus => exact toNat_recordStatusWord hb
  | recordHead i =>
    show (s.recordHeadWord i).toNat = _
    unfold State.recordHeadWord State.layout
    cases s.err.records with
    | nil => rfl
    | cons r more => exact toNat_headWord r i
  | alertConfig => exact toNat_alertConfigWord s
  | alertStatus => exact toNat_alertStatusWord s
  | timeoutClass c => exact toNat_limitWord _
  | sourceConfig n => exact toNat_configWord s n
  | sourceCount n => exact toNat_countWord (ho.countMax n)
  | staging w k => exact toNat_windowWord _ k
  | active w k => exact toNat_windowWord _ k
  | tagFirst t =>
    refine toNat_firstWord fun r hact => ?_
    have hreceived := hr.received t r hact
    have hlength := hr.length t r hact
    omega
  | tagSecond t => exact toNat_secondWord _

end

/-- Settles O50: the rows, the offsets and the values. -/
theorem readsAndReadOnlyWords : Obligations.ReadsAndReadOnlyWords :=
  ⟨fun _ _ _ _ _ => ⟨fun _ => exec_managementWrite_read, exec_managementWrite_readOnly, exec_managementWrite_unnamed⟩,
    fun _ m halign => ⟨offset_of_mgmtWordAt halign, fun h => h ▸ mgmtWordAt_offset m⟩,
    fun _ m hb ho hr => toNat_readWord hb ho hr m⟩

end Sys2Proof.Machine
end

section
/-! PROOF. What a READ of each management word shows right after a device reset: the word's layout over the reset
values. -/

namespace Sys2Proof.Machine

/-- After a device reset no field overflows its place, so a READ shows the word's layout. -/
theorem readWord_deviceReset_of_layout {n : SourceId} {s : State} {m : MgmtWord} {v : Nat}
    (h : (deviceReset n s).layout m = v) : (deviceReset n s).readWord m = BitVec.ofNat 32 v := by
  have hinv := inv_deviceReset n s
  rw [← h, ← toNat_readWord hinv.bounded hinv.order hinv.records, BitVec.ofNat_toNat, BitVec.setWidth_eq]

section

variable (n : SourceId) (s : State)

/-! ### Words whose value sums over a table (R104, R139, R181) -/

theorem tagsWhere_deviceReset {f : TagState → Bool} (hf : f .free = false) : (deviceReset n s).tagsWhere f = 0 :=
  List.countP_eq_zero.mpr fun g _ => by rw [getAt_tags_deviceReset, hf]; exact Bool.false_ne_true

theorem overElements_deviceReset (f : Element → Nat) : (deviceReset n s).overElements f = 0 := by
  have hslot (l : SlotId) : getAt (deviceReset n s).slots l = none := getAt_fillTable 64 _ l
  simp [overElements_eq_elim, hslot]

theorem getAt_items_deviceReset (i : Fin 20) : getAt (deviceReset n s).err.items i =
    { status := false, mask := false, severity := getAt defaultSeverities i } :=
  getAt_defaultItems i

theorem readWord_opState_deviceReset : (deviceReset n s).readWord .opState = 0#32 := by
  apply readWord_deviceReset_of_layout
  simp only [State.layout]
  rw [tagsWhere_deviceReset n s rfl, tagsWhere_deviceReset n s rfl]
  rfl

theorem readWord_holdStatus_deviceReset : (deviceReset n s).readWord .holdStatus = 0#32 := by
  apply readWord_deviceReset_of_layout
  simp only [State.layout, overElements_deviceReset, Nat.mul_zero, Nat.add_zero]

/-- No status and no mask is set. -/
theorem kindBits_deviceReset {f : ErrorItem → Bool}
    (hf : ∀ x, f { status := false, mask := false, severity := x } = false) :
    kindBits (deviceReset n s).err.items f = 0#32 := by
  apply BitVec.eq_of_toNat_eq
  rw [toNat_kindBits]
  simp [getAt_items_deviceReset, hf, flagAt]

/-- No status is set, so there is no fatal condition; HALT_ON_FATAL is set (R154, R158). -/
theorem readWord_errorControl_deviceReset : (deviceReset n s).readWord .errorControl = 1#32 := by
  apply readWord_deviceReset_of_layout
  have hfatal : (deviceReset n s).err.fatalCondition = false := by
    simp [fatalCondition_eq, getAt_items_deviceReset]
  simp only [State.layout, ← fatalCondition_eq, hfatal]
  rfl

theorem readWord_errorSeverity_deviceReset : (deviceReset n s).readWord (.errorSeverity false) = 0x000EAA5F#32 ∧
    (deviceReset n s).readWord (.errorSeverity true) = 0x000A5BAE#32 := by
  constructor
  all_goals
    apply readWord_deviceReset_of_layout
    simp only [State.layout, getAt_items_deviceReset]
    decide

/-! ### Sums of several fields (R197) -/

theorem readWord_tickPeriod_deviceReset : (deviceReset n s).readWord .tickPeriod = 0x03D00002#32 := by
  apply readWord_deviceReset_of_layout
  show prescaleNumber .div256 + 2 ^ 16 * (976#16).toNat = _
  decide

/-- The port is DOWN with no credit, and every slot of both pools is free (R121, R138). -/
theorem readWord_rqPort_deviceReset : (deviceReset n s).readWord .rqPort = 0x5000#32 := by
  apply readWord_deviceReset_of_layout
  show flagAt 0 false + 2 ^ 1 * 0 + 2 ^ 7 * 32 + 2 ^ 13 * 2 + 2 ^ 15 * 0 + 2 ^ 21 * 0 = _
  decide

/-! ### The words of one entry each (R196) -/

theorem readWord_sourceConfig_deviceReset (m : SourceId) : (deviceReset n s).readWord (.sourceConfig m) =
    if m = n then 0x1041#32 else 0#32 := by
  show (getAt (deviceReset n s).sources m).configWord = _
  rw [getAt_sources_deviceReset]
  split <;> rfl

theorem readWord_sourceCount_deviceReset (m : SourceId) : (deviceReset n s).readWord (.sourceCount m) = 0#32 := by
  show (getAt (deviceReset n s).sources m).countWord = _
  rw [SourceEntry.countWord, count_deviceReset]
  rfl

theorem readWord_staging_deviceReset (w : Fin 16) (k : Fin 4) :
    (deviceReset n s).readWord (.staging w k) = Window.unset.word k :=
  congrArg (Window.word · k) (getAt_banks_deviceReset n s _ w)

theorem readWord_active_deviceReset (w : Fin 16) (k : Fin 4) :
    (deviceReset n s).readWord (.active w k) = Window.unset.word k :=
  congrArg (Window.word · k) (getAt_banks_deviceReset n s _ w)

theorem readWord_tag_deviceReset (g : PoolTag) : (deviceReset n s).readWord (.tagFirst g) = 0#32 ∧
    (deviceReset n s).readWord (.tagSecond g) = 0#32 :=
  ⟨congrArg TagState.firstWord (getAt_tags_deviceReset n s g),
    congrArg TagState.secondWord (getAt_tags_deviceReset n s g)⟩

end

/-- Settles O6: the words of the tables by their lemmas, any other word by its layout alone. -/
theorem wordsAfterDeviceReset : Obligations.WordsAfterDeviceReset := by
  intro n s
  obtain ⟨hfirst, hsecond⟩ := readWord_errorSeverity_deviceReset n s
  refine ⟨deviceReset n s, rfl, ?_, ?_, readWord_opState_deviceReset n s, ?_, ?_, readWord_holdStatus_deviceReset n s,
    ?_, readWord_tickPeriod_deviceReset n s, ?_, ?_, readWord_rqPort_deviceReset n s, ?_,
    kindBits_deviceReset n s fun _ => rfl, kindBits_deviceReset n s fun _ => rfl, hfirst, hsecond,
    readWord_errorControl_deviceReset n s, ?_, fun i => ?_, ?_, ?_, ?_, ?_, ?_, ?_, ?bootstrap, fun m hm => ?unset,
    readWord_sourceCount_deviceReset n s, fun w => ?windows, readWord_tag_deviceReset n s⟩
  case bootstrap => rw [readWord_sourceConfig_deviceReset, if_pos rfl]
  case unset => rw [readWord_sourceConfig_deviceReset, if_neg hm]
  case windows =>
    have hstaging := readWord_staging_deviceReset n s w
    have hactive := readWord_active_deviceReset n s w
    exact ⟨hstaging 0, hactive 0, hstaging 1, hactive 1, hstaging 2, hactive 2, hstaging 3, hactive 3⟩
  all_goals exact readWord_deviceReset_of_layout rfl

end Sys2Proof.Machine
end

section
/-! PROOF. The statement about a step with a command waiting; `step_of_empty` says what a step on an empty queue is. -/

namespace Sys2Proof.Machine

/-- Settles O1: the match of `step` on the queue, taken at a queue with a front. -/
theorem stepTakesFrontCommand : Obligations.StepTakesFrontCommand := by
  intro c rest s hpending
  rw [step, hpending]

end Sys2Proof.Machine
end

section
/-! PROOF. `Paid`: between two states each port has sent no packet that a credit of the port did not pay for. Every
operation keeps to it: most send indications alone, and the two that send a packet take a credit for it. Where an
operation leaves what the ports have sent and their credits alone, its frame in the laws gives both halves by `simp`. -/

namespace Sys2Proof.Machine

open Host (Outcome)

/-- On each port the packets sent and the credits left are at most as many as before. -/
structure Paid (s u : State) : Prop where
  rq : packetsOn u.rqWire + u.rqCredits ≤ packetsOn s.rqWire + s.rqCredits
  rs : packetsOn u.rsWire + u.rsCredits ≤ packetsOn s.rsWire + s.rsCredits

section

variable {s u v t : State}

theorem Paid.refl (s : State) : Paid s s := ⟨le_rfl, le_rfl⟩

theorem Paid.trans (h : Paid s u) (k : Paid u v) : Paid s v := ⟨k.rq.trans h.rq, k.rs.trans h.rs⟩

theorem Paid.foldl {α : Type} {g : State → α → State} (hg : ∀ s x, Paid s (g s x)) (s : State) (l : List α) :
    Paid s (l.foldl g s) :=
  List.foldlRecOn l g (.refl s) fun u hu x _ => hu.trans (hg u x)

theorem Paid.ite {p : Prop} [Decidable p] (hu : p → Paid s u) (hv : Paid s v) : Paid s (if p then u else v) := by
  split
  · next hp => exact hu hp
  · exact hv

theorem Paid.of_next (h : Paid s u) (ht : (Outcome.next u : Outcome State Fault Refusal) = .next t) : Paid s t :=
  Outcome.next.inj ht ▸ h

/-! ### The two operations that send a packet (R132, R133) -/

theorem packetsOn_packet (w : List WireItem) (p : PoolCode) (words : List Word) :
    packetsOn (w ++ [sentPacket p words]) = packetsOn w + 1 :=
  packetsOn_append w _

theorem paid_sendRq (hc : 0 < s.rqCredits) (words : List Word) : Paid s (sendRq words s) where
  rq := by
    show packetsOn (s.rqWire ++ [sentPacket .ret words]) + (s.rqCredits - 1) ≤ _
    rw [packetsOn_packet]
    omega
  rs := le_rfl

theorem paid_sendRequest (hc : 0 < s.rsCredits) (req : Request) (c : Classified) (tag : BitVec 8) :
    Paid s (sendRequest req c tag s) where
  rq := le_rfl
  rs := by
    show packetsOn (s.rsWire ++ [sentPacket .ordinary (s.rewritten req c tag)]) + (s.rsCredits - 1) ≤ _
    rw [packetsOn_packet]
    omega

/-! ### Credit-return indications (R123) -/

theorem paid_returnRqCredits (p : PoolCode) (n : Nat) (s : State) : Paid s (returnRqCredits p n s) := by
  unfold returnRqCredits
  split
  · exact ⟨by simp [packetsOn_append, packetsOn_indications], le_rfl⟩
  · exact .refl s

theorem paid_returnRsCredits (n : Nat) (s : State) : Paid s (returnRsCredits n s) :=
  ⟨by simp, by simp [(tame_returnRsCredits s n).packets]⟩

/-! ### The head (R23 to R42) -/

theorem paid_report (k : ErrorKind) (port : Option PortId) (id : Ident) (s : State) : Paid s (report k port id s) :=
  ⟨by simp, by simp⟩

theorem paid_setPhase (p : HeadPhase) (s : State) : Paid s (setPhase p s) := ⟨by simp, by simp⟩

theorem paid_removeHead (s : State) : Paid s (removeHead s) :=
  Paid.trans ⟨by simp, by simp⟩ (paid_returnRqCredits .ordinary 1 _)

theorem paid_linkDownHead (req : Request) (cls : IssueClass) (s : State) : Paid s (linkDownHead req cls s) := by
  cases cls with
  | nonPosted => exact paid_setPhase _ s
  | absorbed => exact (paid_report _ _ _ s).trans (paid_removeHead _)
  | plainPosted => exact (paid_report _ _ _ s).trans (paid_removeHead _)

theorem paid_linkDownClassified (s : State) : Paid s (linkDownClassified s) := by
  unfold linkDownClassified
  split
  · exact .ite (fun _ => paid_linkDownHead _ _ s) (.refl s)
  · exact .refl s

theorem paid_refuseHead (req : Request) (k : ErrorKind) (st : Status) (s : State) : Paid s (refuseHead req k st s) :=
  (paid_report k _ _ s).trans (.ite (fun _ => paid_removeHead _) (paid_setPhase _ _))

theorem paid_classifyHead (req : Request) (s : State) : Paid s (classifyHead req s) := by
  unfold classifyHead
  split
  · exact paid_refuseHead req _ _ s
  · exact .ite (fun _ => paid_linkDownHead req _ s) (paid_setPhase _ s)

theorem paid_takeUpHead (s : State) : Paid s (takeUpHead s) := by
  unfold takeUpHead
  split
  · exact .refl s
  · split
    · exact .refl s
    · exact .ite (fun _ => paid_setPhase _ s) (paid_linkDownClassified s)
    · exact .ite (fun _ => paid_setPhase _ s) (.ite (fun _ => paid_classifyHead _ s) (.refl s))

/-! ### Issue (R37 to R41) -/

/-- Nothing is given to a head without a credit of the RS port (R37). -/
theorem rsCredits_pos_of_grant {c : Classified} {g : Grant} (h : s.grant c = some g) : 0 < s.rsCredits := by
  refine Nat.pos_of_ne_zero fun h0 => ?_
  rw [State.grant, if_pos h0] at h
  exact nomatch h

theorem paid_sendAndRemove (hc : 0 < s.rsCredits) (req : Request) (c : Classified) (tag : BitVec 8) :
    Paid s (removeHead (sendRequest req c tag s)) :=
  (paid_sendRequest hc req c tag).trans (paid_removeHead _)

theorem paid_issueWith (hc : 0 < s.rsCredits) (req : Request) (c : Classified) (g : Grant) :
    Paid s (issueWith req c s g) := by
  cases g with
  | plain => exact paid_sendAndRemove hc req c _
  | tag t => exact Paid.trans ⟨by simp, by simp⟩ (paid_sendAndRemove (by simpa using hc) req c _)
  | tagAndSlot t l => exact Paid.trans ⟨by simp, by simp⟩ (paid_sendAndRemove (by simpa using hc) req c _)

theorem paid_issuable {req : Request} {c : Classified} {g : Grant} (hi : s.issuable = some (req, c, g)) :
    Paid s (issueWith req c s g) := by
  obtain ⟨_, _, _, _, _, hg⟩ := issuable_some hi
  exact paid_issueWith (rsCredits_pos_of_grant hg) req c g

theorem paid_issueNow (s : State) : Paid s (issueNow s) := by
  unfold issueNow
  split
  · next hi => exact paid_issuable hi
  · exact .refl s

theorem Paid.issueAfter (h : Paid s u) (before : State) : Paid s (issueAfter before u) :=
  h.trans (.ite (fun _ => paid_issueNow u) (.refl u))

theorem paid_issue (ht : execIssue s = .next t) : Paid s t := by
  obtain rfl := Outcome.next.inj ht
  split
  · next hi => exact .ite (fun _ => .refl s) (paid_issuable hi)
  · exact .refl s

theorem paid_issuePlainPosted (ht : execIssuePlainPosted s = .next t) : Paid s t := by
  obtain rfl := Outcome.next.inj ht
  split
  · next hi => exact .ite (fun _ => paid_issuable hi) (.refl s)
  · exact .refl s

/-! ### The producers and the ring (R131) -/

theorem paid_matcherTake (s : State) : Paid s (matcherTake s) :=
  ⟨by simp, by simp [(tame_matcherTake s).packets]⟩

theorem paid_placeAnswer (s : State) : Paid s (placeAnswer s) := by
  unfold placeAnswer
  split
  · exact Paid.trans ⟨by simp, by simp⟩ (paid_removeHead _)
  · exact .refl s

theorem paid_placeMalformed (s : State) : Paid s (placeMalformed s) := by
  unfold placeMalformed
  split
  · exact .refl s
  · exact Paid.trans ⟨by simp, by simp⟩ (paid_returnRqCredits _ 1 _)

theorem paid_serve (p : Producer) (s : State) : Paid s (serve p s) := by
  cases p with
  | malformedList => exact paid_placeMalformed s
  | dispatch => exact paid_placeAnswer s
  | backlog => exact (⟨by simp, by simp⟩ : Paid s (placeBacklog s))
  | matcher => exact paid_matcherTake s
  | drain n => exact (⟨by simp, by simp⟩ : Paid s (drainHead n s))

theorem paid_placeDirect (p : Producer) (s : State) : Paid s (placeDirect p s) :=
  .ite (fun _ => paid_serve p s) (.refl s)

theorem paid_serveAt (p : Fin 36) (s : State) : Paid s (serveAt p s) :=
  (paid_serve (Producer.at p) s).trans ⟨le_rfl, le_rfl⟩

theorem paid_givePlace (s : State) : Paid s (givePlace s) := by
  unfold givePlace
  split
  · exact paid_serveAt _ s
  · exact .refl s

theorem paid_distribute (before s : State) : Paid s (distribute before s) :=
  Paid.foldl (fun s p => .ite (fun _ => paid_serveAt p s) (.refl s)) s _

theorem paid_matcherStep (s : State) : Paid s (matcherStep s) :=
  .ite (fun _ => .refl s)
    (.ite (fun _ => (paid_matcherTake s).trans (paid_distribute s _)) (paid_matcherTake s))

/-! ### The Tick Generator (R106 to R112) -/

theorem paid_expireTag (t : PoolTag) (s : State) : Paid s (expireTag t s) := ⟨by simp, by simp⟩

theorem paid_tickEvent (s : State) : Paid s (tickEvent s) :=
  Paid.trans (u := expireAndLapse { s with tick := s.tick.underflow }) ⟨by simp, by simp⟩ (paid_distribute s _)

theorem paid_prescaledStep (s : State) : Paid s (prescaledStep s) :=
  .ite (fun _ => paid_tickEvent s) ⟨by simp, by simp⟩

/-! ### Transmission (R132) -/

theorem paid_transmitTraffic (hc : 0 < s.rqCredits) : Paid s (transmitTraffic s) := by
  unfold transmitTraffic
  split
  · exact .refl s
  · next r rest _ =>
    have hsent : Paid s (sendRq (packResponse r) { s with trafficQueue := rest }) :=
      Paid.trans ⟨by simp, by simp⟩ (paid_sendRq (by exact hc) _)
    exact .ite (fun _ => hsent) (hsent.trans (paid_givePlace _))

theorem paid_transmit (hc : 0 < s.rqCredits) : Paid s (transmit s) := by
  unfold transmit
  split
  · exact Paid.trans ⟨by simp, by simp⟩ (paid_sendRq (by exact hc) _)
  · split
    · exact Paid.trans ⟨by simp, by simp⟩ (paid_sendRq (by exact hc) _)
    · exact paid_transmitTraffic hc

/-! ### The links (R134 to R137) -/

theorem paid_rqUp (s : State) : Paid s (rqUp s) :=
  (Paid.trans ⟨by simp, by simp⟩ (paid_returnRqCredits .ordinary _ { s with rqLink := .up, rqCredits := 0 })).trans
    (paid_returnRqCredits _ _ _)

theorem paid_rsUp (s : State) : Paid s (rsUp s) :=
  Paid.trans ⟨by simp, by simp⟩ (paid_returnRsCredits _ { s with rsLink := .up, rsCredits := 0 })

theorem paid_rqDown (s : State) : Paid s (rqDown s) := ⟨by simp [rqDown, rqTeardown], by simp⟩

theorem paid_rsDown (s : State) : Paid s (rsDown s) := by
  have hcut : Paid s (freeQuarantined (terminateAll (fun _ => true) (some .linkDown) .free
      { s with rsLink := .down, rsCredits := 0, ingress := [] })) := ⟨by simp, by simp⟩
  exact ((hcut.trans (paid_linkDownClassified _)).trans (paid_report _ _ _ _)).trans (paid_distribute s _)

theorem paid_putRq_restart (s : State) : Paid s (putRq .restart s) :=
  ⟨Nat.add_le_add_right (packetsOn_append s.rqWire [.restart]).le _, le_rfl⟩

theorem paid_putRs_restart (s : State) : Paid s (putRs .restart s) :=
  ⟨le_rfl, Nat.add_le_add_right (packetsOn_append s.rsWire [.restart]).le _⟩

theorem paid_rqFramingFailure (s : State) : Paid s (rqFramingFailure s) :=
  (paid_rqDown s).trans (paid_putRq_restart _)

theorem paid_rsFramingFailure (s : State) : Paid s (rsFramingFailure s) :=
  (paid_rsDown s).trans (paid_putRs_restart _)

/-! ### What arrives (R120 to R129) -/

theorem paid_failKind (p : PoolCode) (words : List Word) (s : State) : Paid s (failKind p words s) :=
  (paid_returnRqCredits p 1 s).trans (paid_report _ _ _ _)

theorem paid_takeMalformed (r : Request) (p : PoolCode) (s : State) : Paid s (takeMalformed r p s) :=
  (paid_report .malformedRequest (some .rq) r.ident s).trans
    (.ite (fun _ => paid_returnRqCredits p 1 _)
      (.ite (fun _ => Paid.trans ⟨by simp, by simp⟩ (paid_returnRqCredits p 1 _)) ⟨by simp, by simp⟩))

theorem paid_sortRequest (r : Request) (p : PoolCode) (s : State) : Paid s (sortRequest r p s) :=
  .ite (fun _ => ⟨by simp, by simp⟩)
    (.ite (fun _ => (paid_report _ _ _ s).trans (paid_returnRqCredits _ 1 _)) ⟨by simp, by simp⟩)

theorem paid_takeRqPacket (p : PoolCode) (words : List Word) (s : State) : Paid s (takeRqPacket p words s) := by
  unfold takeRqPacket
  split
  · split
    · exact .ite (fun _ => paid_takeMalformed _ p s) (paid_sortRequest _ p s)
    · exact paid_failKind p _ s
  · exact paid_failKind p _ s

theorem paid_admitRq (p : PoolCode) (words : List Word) (check : BitVec 16) (s : State) :
    Paid s (admitRq p words check s) :=
  .ite (fun _ => paid_report _ _ _ s)
    (.ite (fun _ => paid_takeRqPacket p words s) ((paid_returnRqCredits p 1 s).trans (paid_report _ _ _ _)))

theorem paid_failFormat (words : List Word) (s : State) : Paid s (failFormat words s) :=
  (paid_returnRsCredits 1 s).trans (paid_report _ _ _ _)

theorem paid_takeRsPacket (words : List Word) (s : State) : Paid s (takeRsPacket words s) := by
  unfold takeRsPacket
  split
  · exact paid_failFormat _ s
  · split
    · exact paid_failFormat _ s
    · exact .ite (fun _ => paid_failFormat _ s) ⟨by simp, by simp⟩

theorem paid_admitRs (words : List Word) (check : BitVec 16) (s : State) : Paid s (admitRs words check s) :=
  .ite (fun _ => paid_report _ _ _ s)
    (.ite (fun _ => paid_takeRsPacket words s) ((paid_returnRsCredits 1 s).trans (paid_report _ _ _ _)))

theorem paid_rqArrival {framing : BitVec 8} {words : List Word} {check : BitVec 16}
    (ht : execRqArrival framing words check s = .next t) : Paid s t := by
  obtain rfl := Outcome.next.inj ht
  refine .ite (fun _ => .refl s) ?_
  split
  · exact paid_admitRq .ordinary words check s
  · exact paid_admitRq .management words check s
  · exact paid_rqFramingFailure s

theorem paid_rsArrival {framing : BitVec 8} {words : List Word} {check : BitVec 16}
    (ht : execRsArrival framing words check s = .next t) : Paid s t := by
  obtain rfl := Outcome.next.inj ht
  refine .ite (fun _ => .refl s) ?_
  split
  · exact paid_admitRs words check s
  · exact paid_rsFramingFailure s

/-! ### HALT, FLUSH_SOURCE and SOFT_RESET (R176, R180, R182) -/

theorem paid_haltQueue (s : State) : Paid s (haltQueue s) :=
  Paid.trans ⟨by simp, by simp⟩ (paid_returnRqCredits .ordinary _ _)

theorem paid_haltTeardown (s : State) : Paid s (haltTeardown s) :=
  (Paid.trans ⟨by simp, by simp⟩ (paid_haltQueue _)).trans (paid_distribute s _)

theorem paid_takeHalt (s : State) : Paid s (takeHalt s) :=
  .ite (fun _ => .ite (fun _ => ⟨by simp, by simp⟩)
    (Paid.trans ⟨by simp, by simp⟩ (paid_haltTeardown { s with haltRequested := false }))) (.refl s)

theorem paid_flushQueue (n : SourceId) (s : State) : Paid s (flushQueue n s) :=
  Paid.trans ⟨by simp, by simp⟩ (paid_returnRqCredits .ordinary _ _)

theorem paid_flushSource (n : SourceId) (s : State) : Paid s (flushSource n s) :=
  (paid_flushQueue n s).trans ⟨by simp [flushSource], by simp⟩

theorem paid_returnFreed (l : List MalformedAnswer) (s : State) :
    Paid s (l.foldl (fun s a => returnRqCredits a.pool 1 s) s) := by
  refine Paid.foldl (fun u a => ?_) s l
  exact paid_returnRqCredits a.pool 1 u

theorem paid_softReset (s : State) : Paid s (softReset s) := by
  have hforward : Paid s (returnRqCredits .ordinary s.forwardQueue.length
      { s with forwardQueue := [], headPhase := .new }) :=
    Paid.trans ⟨by simp, by simp⟩ (paid_returnRqCredits .ordinary _ _)
  unfold softReset
  dsimp only
  generalize returnRqCredits .ordinary s.forwardQueue.length { s with forwardQueue := [], headPhase := .new } = s1
    at hforward
  have hclear : Paid s1 (clearLists (clearCounts
      { freeQuarantined (terminateAll (fun _ => true) none .free s1) with backlog := [] })) := ⟨by simp, by simp⟩
  generalize clearLists (clearCounts
      { freeQuarantined (terminateAll (fun _ => true) none .free s1) with backlog := [] }) = s3 at hclear
  have hingress : Paid s3 (returnRsCredits s3.ingress.length { s3 with ingress := [] }) :=
    Paid.trans ⟨by simp, by simp⟩ (paid_returnRsCredits _ _)
  generalize returnRsCredits s3.ingress.length { s3 with ingress := [] } = s4 at hingress
  have hanswers : Paid s4 { s4 with trafficQueue := [], malformedList := [], opState := .quiesced } :=
    ⟨le_rfl, le_rfl⟩
  exact ((hforward.trans hclear).trans (hingress.trans hanswers)).trans (paid_returnFreed _ _)

/-! ### The rows of the Management Agent (R170 to R175) -/

theorem paid_placeManagementAnswer (r : Request) (a : Answer) (s : State) : Paid s (placeManagementAnswer r a s) :=
  .ite (fun _ => .refl s) ⟨by simp, by simp⟩

theorem paid_finishRequest (s : State) : Paid s (finishRequest s) :=
  Paid.trans ⟨by simp, by simp⟩ (paid_returnRqCredits .management 1 _)

theorem answerable_paid (s : State) : Answerable (Paid s) where
  report u _ h := h.trans (paid_report _ _ _ u)
  shown _ _ _ h := h.trans ⟨le_rfl, le_rfl⟩
  answer u r a h := h.trans (paid_placeManagementAnswer r a u)
  finish u h := h.trans (paid_finishRequest u)

theorem paid_quiesce (hu : quiesceEffect s = some u) : Paid s u := by
  unfold quiesceEffect at hu
  split at hu
  · exact Option.some.inj hu ▸ ⟨le_rfl, le_rfl⟩
  · exact Option.some.inj hu ▸ .refl s
  · exact Option.some.inj hu ▸ .refl s
  · exact nomatch hu

theorem paid_resumeRun (s : State) : Paid s (resumeRun s) :=
  Paid.trans ⟨by simp, by simp⟩ (paid_linkDownClassified _)

theorem paid_resume (hu : resumeEffect s = some u) : Paid s u := by
  unfold resumeEffect at hu
  split at hu
  · exact Option.some.inj hu ▸ .refl s
  · exact Option.some.inj hu ▸ paid_resumeRun s
  · exact Option.some.inj hu ▸ paid_resumeRun s
  · exact Option.some.inj (Option.ite_none_left_eq_some.mp hu).2 ▸ paid_resumeRun s

theorem paid_flush {a : BitVec 8} (hu : flushEffect a s = some u) : Paid s u := by
  obtain ⟨_, hu⟩ := Option.dite_none_right_eq_some.mp hu
  exact Option.some.inj hu ▸ paid_flushSource _ s

theorem paid_alertAck {a : BitVec 8} (hu : alertAckEffect a s = some u) : Paid s u := by
  obtain ⟨c, -, rfl⟩ := Option.map_eq_some_iff.mp hu
  exact ⟨le_rfl, le_rfl⟩

theorem paid_popRecord (hu : popRecordEffect s = some u) : Paid s u := by
  unfold popRecordEffect at hu
  split at hu
  · exact nomatch hu
  · exact Option.some.inj hu ▸ ⟨le_rfl, le_rfl⟩

theorem paid_clearStatus {a : BitVec 8} (hu : clearStatusEffect a s = some u) : Paid s u := by
  unfold clearStatusEffect at hu
  split at hu
  · exact Option.some.inj hu ▸ ⟨le_rfl, le_rfl⟩
  · obtain ⟨_, hu⟩ := Option.dite_none_right_eq_some.mp hu
    exact Option.some.inj hu ▸ ⟨le_rfl, le_rfl⟩

theorem paid_sourceConfig {r : Request} (hu : writeSourceConfig r s = some u) : Paid s u := by
  obtain ⟨n, e, rfl, -⟩ := writeSourceConfig_some hu
  exact ⟨le_rfl, le_rfl⟩

theorem paid_staging {r : Request} (hu : writeStaging r s = some u) : Paid s u := by
  obtain ⟨b, rfl⟩ := writeStaging_some hu
  exact ⟨le_rfl, le_rfl⟩

theorem paid_timeoutClass {r : Request} (hu : writeTimeoutClass r s = some u) : Paid s u := by
  obtain ⟨l, rfl⟩ := writeTimeoutClass_some hu
  exact ⟨le_rfl, le_rfl⟩

theorem paid_quarantineLimit {r : Request} (hu : writeQuarantineLimit r s = some u) : Paid s u :=
  Option.some.inj (Option.ite_none_left_eq_some.mp hu).2 ▸ ⟨le_rfl, le_rfl⟩

theorem paid_tickPeriod {r : Request} (hu : writeTickPeriod r s = some u) : Paid s u :=
  Option.some.inj (Option.ite_none_left_eq_some.mp hu).2 ▸ ⟨le_rfl, le_rfl⟩

theorem paid_errorSeverity {r : Request} (hu : writeErrorSeverity r s = some u) : Paid s u := by
  obtain ⟨e, rfl, -⟩ := writeErrorSeverity_some hu
  exact ⟨le_rfl, le_rfl⟩

theorem paid_farSource {r : Request} (hu : writeFarSource r s = some u) : Paid s u :=
  Option.some.inj (Option.ite_none_right_eq_some.mp hu).2 ▸ ⟨le_rfl, le_rfl⟩

theorem paid_handle (row : MgmtRow) (r : Request) (s : State) : Paid s (row.handle r s).1 := by
  have hP := answerable_paid s
  have hs := Paid.refl s
  have hcommand {effect : BitVec 8 → State → Option State} (he : ∀ {a u}, effect a s = some u → Paid s u) :
      Paid s (commandWith effect r s).1 := hP.commandWith hs (fun _ _ => he) r
  have hwrite {apply : Request → State → Option State} (ha : ∀ {r u}, apply r s = some u → Paid s u) :
      Paid s (writeWith apply r s).1 := hP.writeWith hs (fun _ _ => ha) r
  cases row with
  | swapBanks => exact hP.commandWith_some (f := swapRoles) hs ⟨le_rfl, le_rfl⟩ r
  | copyActiveToStaging => exact hP.commandWith_some (f := copyBank) hs ⟨le_rfl, le_rfl⟩ r
  | quiesce => exact hcommand paid_quiesce
  | resume => exact hcommand paid_resume
  | flushSource => exact hcommand paid_flush
  | softReset => exact hP.commandWith_some (f := softReset) hs (paid_softReset s) r
  | alertAck => exact hcommand paid_alertAck
  | popRecord => exact hcommand paid_popRecord
  | clearRecords => exact hP.commandWith_some (f := clearRecordsEffect) hs ⟨le_rfl, le_rfl⟩ r
  | clearStatus => exact hcommand paid_clearStatus
  | sourceConfiguration => exact hwrite (apply := writeSourceConfig) paid_sourceConfig
  | stagingWindow => exact hwrite (apply := writeStaging) paid_staging
  | timeoutClass => exact hwrite (apply := writeTimeoutClass) paid_timeoutClass
  | quarantineLimit => exact hwrite paid_quarantineLimit
  | tickPeriod => exact hwrite paid_tickPeriod
  | tickRun => exact hwrite (apply := writeTickRun) fun hu => Option.some.inj hu ▸ ⟨le_rfl, le_rfl⟩
  | errorMask => exact hwrite (apply := writeErrorMask) fun hu => Option.some.inj hu ▸ ⟨le_rfl, le_rfl⟩
  | errorSeverity => exact hwrite (apply := writeErrorSeverity) paid_errorSeverity
  | errorControl => exact hwrite (apply := writeErrorControl) fun hu => Option.some.inj hu ▸ ⟨le_rfl, le_rfl⟩
  | alertConfiguration => exact hwrite (apply := writeAlertConfig) fun hu => Option.some.inj hu ▸ ⟨le_rfl, le_rfl⟩
  | farSource => exact hwrite paid_farSource
  | other => exact hP.handleOther hs r

theorem paid_row (row : MgmtRow) (ht : exec row.command s = .next t) : Paid s t := by
  rw [exec_command] at ht
  obtain rfl := Outcome.next.inj ht
  rcases (answerable_paid s).takeRequest (.refl s) (fun r => paid_handle row r s) with he | ⟨u, hu, he⟩
  · rw [he]
    exact .refl s
  · rw [he]
    exact hu.issueAfter s

/-! ### Every command -/

/-- A device reset leaves no credits and keeps what the links have carried (R183). -/
theorem paid_deviceReset (n : SourceId) (s : State) : Paid s (deviceReset n s) :=
  ⟨Nat.add_le_add_left (Nat.zero_le _) _, Nat.add_le_add_left (Nat.zero_le _) _⟩

/-- Every command but a credit-return indication. -/
theorem paid_exec {i : Instr} (hi : ∀ port byte, i ≠ .creditReturnIndication port byte) (ht : exec i s = .next t) :
    Paid s t := by
  have hs := Paid.refl s
  cases i with
  | creditReturnIndication port byte => exact absurd rfl (hi port byte)
  | deviceReset n => exact (paid_deviceReset n s).of_next ht
  | rqLinkUp => exact (Paid.ite (fun _ => hs) (paid_rqUp s)).of_next ht
  | rqLinkDown => exact (Paid.ite (fun _ => paid_rqDown s) hs).of_next ht
  | rsLinkUp => exact (Paid.ite (fun _ => hs) (paid_rsUp s)).of_next ht
  | rsLinkDown => exact (Paid.ite (fun _ => paid_rsDown s) hs).of_next ht
  | rqArrival framing words check => exact paid_rqArrival ht
  | rsArrival framing words check => exact paid_rsArrival ht
  | tickEvent => exact (Paid.ite (fun _ => (paid_tickEvent s).issueAfter s) hs).of_next ht
  | prescaledStep => exact (Paid.ite (fun _ => (paid_prescaledStep s).issueAfter s) hs).of_next ht
  | expiry tag => exact (((paid_expireTag tag s).trans (paid_distribute s _)).issueAfter s).of_next ht
  | lapse tag => exact (Paid.issueAfter (u := lapseTag tag s) ⟨by simp, by simp⟩ s).of_next ht
  | classification => exact (paid_takeUpHead s).of_next ht
  | issue => exact paid_issue ht
  | issuePlainPosted => exact paid_issuePlainPosted ht
  | answerPlacement => exact (paid_placeDirect .dispatch s).of_next ht
  | backlogEntry => exact ((paid_placeDirect .backlog s).issueAfter s).of_next ht
  | malformedAnswerEntry => exact (paid_placeDirect .malformedList s).of_next ht
  | matcherTake => exact ((paid_matcherStep s).issueAfter s).of_next ht
  | drainStep source => exact ((paid_placeDirect (.drain source) s).issueAfter s).of_next ht
  | transmitStep => exact (Paid.ite (fun hc => (paid_transmit hc.2).issueAfter s) hs).of_next ht
  | halt => exact (paid_takeHalt s).of_next ht
  | swapBanks => exact paid_row .swapBanks ht
  | copyActiveToStaging => exact paid_row .copyActiveToStaging ht
  | quiesce => exact paid_row .quiesce ht
  | resume => exact paid_row .resume ht
  | flushSource => exact paid_row .flushSource ht
  | softReset => exact paid_row .softReset ht
  | alertAck => exact paid_row .alertAck ht
  | popRecord => exact paid_row .popRecord ht
  | clearRecords => exact paid_row .clearRecords ht
  | clearStatus => exact paid_row .clearStatus ht
  | sourceConfigurationWrite => exact paid_row .sourceConfiguration ht
  | stagingWindowWrite => exact paid_row .stagingWindow ht
  | timeoutClassWrite => exact paid_row .timeoutClass ht
  | quarantineLimitWrite => exact paid_row .quarantineLimit ht
  | tickPeriodWrite => exact paid_row .tickPeriod ht
  | tickRunWrite => exact paid_row .tickRun ht
  | errorMaskWrite => exact paid_row .errorMask ht
  | errorSeverityWrite => exact paid_row .errorSeverity ht
  | errorControlWrite => exact paid_row .errorControl ht
  | alertConfigurationWrite => exact paid_row .alertConfiguration ht
  | farSourceIdWrite => exact paid_row .farSource ht
  | managementWrite => exact paid_row .other ht

theorem moreCredits_le_succ (n : Nat) : moreCredits n ≤ n + 1 := by
  unfold moreCredits
  split
  · exact le_rfl
  · exact Nat.le_succ n

/-- The state with one transmit credit more on a port, which is what an indication can bring (R122). -/
def withCredit (s : State) : PortId → State
  | .rq => { s with rqCredits := s.rqCredits + 1 }
  | .rs => { s with rsCredits := s.rsCredits + 1 }

/-- What an indication leaves is paid for when its port has the one credit that it brings (R122). -/
theorem paid_creditReturn {port : PortId} {byte : BitVec 8} (ht : execCreditReturnIndication port byte s = .next t) :
    Paid (withCredit s port) t := by
  obtain rfl := Outcome.next.inj ht
  cases port with
  | rq =>
    have hs : Paid (withCredit s .rq) s := ⟨Nat.add_le_add_left (Nat.le_succ _) _, le_rfl⟩
    have hmore : Paid (withCredit s .rq) { s with rqCredits := moreCredits s.rqCredits } :=
      ⟨Nat.add_le_add_left (moreCredits_le_succ _) _, le_rfl⟩
    exact .ite (fun _ => hs) (.ite (fun _ => hmore) (hs.trans (paid_rqFramingFailure s)))
  | rs =>
    have hs : Paid (withCredit s .rs) s := ⟨le_rfl, Nat.add_le_add_left (Nat.le_succ _) _⟩
    have hmore : Paid (withCredit s .rs) { s with rsCredits := moreCredits s.rsCredits } :=
      ⟨le_rfl, Nat.add_le_add_left (moreCredits_le_succ _) _⟩
    exact .ite (fun _ => hs) (.ite (fun _ => hmore.issueAfter s) (hs.trans (paid_rsFramingFailure s)))

end

/-- Settles O60: every command is paid for, a credit-return indication from the state with the credit it brings. -/
theorem noPacketWithoutACredit : Obligations.NoPacketWithoutACredit := by
  intro c s t ht
  by_cases hc : ∃ port byte, c = .creditReturnIndication port byte
  · obtain ⟨port, byte, rfl⟩ := hc
    have h := paid_creditReturn ht
    cases port with
    | rq => exact ⟨h.rq, h.rs⟩
    | rs => exact ⟨h.rq, h.rs⟩
  · have h := paid_exec (fun port byte hi => hc ⟨port, byte, hi⟩) ht
    exact ⟨h.rq.trans (Nat.le_add_right _ _), h.rs.trans (Nat.le_add_right _ _)⟩

end Sys2Proof.Machine
end
